-- ==== Sys2Proof/Word.lean ====
section
/-! DEFINITION. The words of the TN412: 32-bit words, bytes, 16-bit samples (00_scope 4.1, 11: chapter opening). -/
namespace Sys2Proof

/-- A 32-bit word of a cell, a service message or a table (chapter 11). -/
abbrev Word := BitVec 32

/-- An 8-bit header or message field. -/
abbrev Byte := BitVec 8

/-- A 16-bit unsigned sample (00_scope 4.1). -/
abbrev Sample := BitVec 16

end Sys2Proof
end

