-- ==== Sys2Proof/Syntax.lean ====
section
/-! DEFINITION. The commands of the TN412: one constructor per row of spec/opcode_table.json, and the types of their operands. -/
namespace Sys2Proof

/-- The two link ports (chapter 1). -/
inductive Port where
  | scan | ingest
  deriving DecidableEq, Repr

/-- Speed classes, S0 FULL the fastest (R83). -/
inductive SpeedClass where
  | s0 | s1 | s2 | s3
  deriving DecidableEq, Repr

/-- One pixel: four samples in the order R, G, B, IR (00_scope 4.1, R196). -/
structure Pixel where
  r : Sample
  g : Sample
  b : Sample
  ir : Sample
  deriving DecidableEq, Repr

/-- The reel header as it stands in a REEL_OPEN cell, before clamping (R197). -/
structure RawHeader where
  reelId : Word
  base : BitVec 2
  acid : Byte
  holes : Byte
  step : Byte
  lines : BitVec 16
  pixels : BitVec 16
  deriving DecidableEq, Repr

/-- Whether the sending of a composed ingest cell is over before the next command, or the cell is still under way
(R19, R20, R56). An input from the port's cell clock (log 7). -/
inductive Sending where
  | whole | underWay
  deriving DecidableEq, Repr

/-- The commands. A service verb carries the tag of its start word and its body words (R184). -/
inductive Instr where
  | powerOn (lane : BitVec 4)
  | idleCell
  | reelOpen (header : RawHeader)
  | frameOpen (frameNo : Word) (step : Byte) (cls : SpeedClass)
  | line (pixels : List Pixel)
  | frameClose
  | splice
  | reelClose
  | droppedCell (port : Port)
  | serviceCell (pause : Bool) (valid : Bool) (word : Word)
  | directiveCell
  | ingestOutgoingCell (sending : Sending)
  | timeout
  | identify (tag : Byte) (body : List Word)
  | readStatus (tag : Byte) (body : List Word)
  | setMask (tag : Byte) (body : List Word)
  | writeTable (tag : Byte) (body : List Word)
  | readTable (tag : Byte) (body : List Word)
  | selectGrade (tag : Byte) (body : List Word)
  | trim (tag : Byte) (body : List Word)
  | setCeiling (tag : Byte) (body : List Word)
  | readReel (tag : Byte) (body : List Word)
  | checksum (tag : Byte) (body : List Word)
  | placeConfirm (tag : Byte) (body : List Word)
  | placeRefuse (tag : Byte) (body : List Word)
  | reset (tag : Byte) (body : List Word)
  | emissionStart
  | emissionEnd
  | enterDisposing
  | dispositionNotice
  | acqTimeout
  | exposureAdoption
  | trackRetire
  | nporFall
  deriving DecidableEq, Repr

end Sys2Proof
end

