-- ==== Sys2Proof/Machine/Arith.lean ====
section
/-! DEFINITION. Shared arithmetic: clamps, saturating counts, rounding (00_scope 4.4, 4.5), bit fields of words (chapter 11). -/
namespace Sys2Proof.Machine

/-- The nearer end of the range for a value outside it (00_scope 4.4). -/
def clampNat (lo hi v : Nat) : Nat :=
  if v < lo then lo else if hi < v then hi else v

/-- `clampNat` for signed values. -/
def clampInt (lo hi v : Int) : Int :=
  if v < lo then lo else if hi < v then hi else v

/-- A credit of `k` to a counter that saturates at `top` (00_scope 4.5). -/
def satAdd (top n k : Nat) : Nat :=
  if top ≤ n then n else min top (n + k)

/-- Division rounded toward plus infinity. -/
def ceilDiv (a b : Nat) : Nat := (a + (b - 1)) / b

/-- `a / b` rounded half away from zero, for b at least 1 (R73). -/
def roundHalfAway (a : Int) (b : Nat) : Int :=
  if 0 ≤ a then (2 * a + b) / (2 * b) else -((2 * (-a) + b) / (2 * b))

/-- A field's value placed with its least significant bit at `lsb`. -/
def fld (v lsb : Nat) : Word := BitVec.ofNat 32 (v <<< lsb)

/-- Bits `hi..lo` of a word as a number. -/
def bitsOf (w : Word) (hi lo : Nat) : Nat := (w.toNat >>> lo) % 2 ^ (hi - lo + 1)

/-- One bit of a word. -/
def bitOf (w : Word) (i : Nat) : Bool := w.getLsbD i

/-- A flag as the number 1 or 0. -/
def flag (b : Bool) : Nat := if b then 1 else 0

/-- A signed value as a two's complement word. -/
def signedWord (v : Int) : Word := BitVec.ofInt 32 v

/-- A signed value in 16 bits, as the number those bits spell (R198: dx, dy). -/
def signed16 (v : Int) : Nat := (BitVec.ofInt 16 v).toNat

/-- An unsigned value as a word. -/
def natWord (v : Nat) : Word := BitVec.ofNat 32 v

/-- Rank of a speed class; a larger rank is slower (R83). -/
def rank : SpeedClass → Nat
  | .s0 => 0
  | .s1 => 1
  | .s2 => 2
  | .s3 => 3

/-- The class of a rank; a rank above 3 is S3 (R188: SET_CEILING). -/
def classOf (n : Nat) : SpeedClass :=
  match n with
  | 0 => .s0
  | 1 => .s1
  | 2 => .s2
  | _ => .s3

/-- The slower of two classes, `max(a, b)` of R83. -/
def slower (a b : SpeedClass) : SpeedClass := if rank a < rank b then b else a

/-- One class slower; S3 stays (R88). -/
def stepDown : SpeedClass → SpeedClass
  | .s0 => .s1
  | .s1 => .s2
  | .s2 => .s3
  | .s3 => .s3

/-- One class faster; S0 stays (R88). -/
def stepUp : SpeedClass → SpeedClass
  | .s0 => .s0
  | .s1 => .s0
  | .s2 => .s1
  | .s3 => .s2

/-- A vector with the element at an index changed; an index beyond its end changes nothing. -/
def vecModify {α : Type} {n : Nat} (v : Vector α n) (i : Nat) (f : α → α) : Vector α n :=
  if h : i < n then v.set i (f (v[i])) h else v

end Sys2Proof.Machine
end

