-- ==== Sys2Proof/Config.lean ====
section
/-! DEFINITION. What the part fixes: its constants and limits. No value of the TN412 is left open by its manual
(00_scope 4.4: every formula is exact), so there is no free value here. -/
namespace Sys2Proof.Config

/-- Part code returned by IDENTIFY (R199). -/
def partCode : Word := 0x00000412
/-- Revision returned by IDENTIFY (R199). -/
def revision : Word := 0x00000001
/-- Top byte of every start word (R184, R199). -/
def marker : Nat := 0xC6
/-- Largest body count of a start word (R184). -/
def maxBody : Nat := 62
/-- Ingest cells without an accepted word after which an open message times out (R183). -/
def timeoutLimit : Nat := 4096
/-- Reply positions of the reply queue (R186). -/
def replyPositions : Nat := 3
/-- Control entries the emission list holds (R43). -/
def maxControls : Nat := 16
/-- Lines a slot holds, and the limit of an untreated frame (R12). -/
def maxLines : Nat := 3120
/-- Entries of a frame's region table (R102). -/
def maxRegions : Nat := 256
/-- Tracks of the scratch track list (R109). -/
def maxTracks : Nat := 16
/-- Entries of the placement list (R170). -/
def maxPlacements : Nat := 16
/-- Placement count that sets the load-hold hysteresis flag (R95). -/
def holdOn : Nat := 12
/-- Placement count that clears the load-hold hysteresis flag (R95). -/
def holdOff : Nat := 4
/-- Mismatches after which the head's step is adopted (R93). -/
def adoptAfter : Nat := 4
/-- Ceiling of the reel record's counters (R32). -/
def counterMax : Nat := 4294967295
/-- Default condition mask: only RESET_SEEN unmasked (R192, R199). -/
def defaultMask : BitVec 11 := 0x400
/-- Generator x^16 + x^15 + x^2 + 1 of the link check (R2). -/
def linkPoly : BitVec 16 := 0x8005
/-- Generator x^16 + x^14 + x^9 + x^3 + 1 of the grade checksum (R140). -/
def gradePoly : BitVec 16 := 0x4209

end Sys2Proof.Config
end

