-- ==== Sys2Proof/Machine/Crc.lean ====
section
/-! DEFINITION. The two CRC-16s of the part: the link check (R2) and the grade checksum (R140), most significant bit first,
register starting at 0xFFFF, no final inversion. -/
namespace Sys2Proof.Machine

/-- One bit into the CRC register. -/
def crcStep (poly reg : BitVec 16) (bit : Bool) : BitVec 16 :=
  if (reg.msb ^^ bit) then (reg <<< 1) ^^^ poly else reg <<< 1

/-- The bits of a word in the order they are sent: most significant byte first, each byte most significant bit first. -/
def wordBits (w : Word) : List Bool := (List.range 32).map fun i => w.getLsbD (31 - i)

/-- The CRC register after one more word. -/
def crcWord (poly reg : BitVec 16) (w : Word) : BitVec 16 := (wordBits w).foldl (crcStep poly) reg

/-- The CRC of a list of words. -/
def crcWords (poly : BitVec 16) (ws : List Word) : BitVec 16 := ws.foldl (crcWord poly) 0xFFFF

/-- The 16-bit link check of a cell's words (R2). -/
def linkCheck (ws : List Word) : BitVec 16 := crcWords Config.linkPoly ws

/-- The grade checksum of a set's values in index order, each fed as a two's complement word (R140). -/
def gradeChecksum (values : List Int) : BitVec 16 := crcWords Config.gradePoly (values.map fun v => BitVec.ofInt 32 v)

end Sys2Proof.Machine
end

