-- ==== Sys2Proof/Decode.lean ====
section
/-! DEFINITION. From words to commands: the table gives no row any bits, so no table word spells a command; and the receipt of
cells from the wire on the two ports (R2, R4, R16, R196, R197). -/
namespace Sys2Proof

/-- The command that a word spells by the bits of spec/opcode_table.json: no row gives bits, so none (log 2). -/
def decodeTableWord (_nbits _w : Nat) : Option Instr := none

/-- The raw reel header of three payload words (R197). -/
def rawHeaderOf (w1 w2 w3 : Word) : RawHeader :=
  { reelId := w1
    base := BitVec.ofNat 2 (Machine.bitsOf w2 31 30)
    acid := BitVec.ofNat 8 (Machine.bitsOf w2 23 16)
    holes := BitVec.ofNat 8 (Machine.bitsOf w2 15 8)
    step := BitVec.ofNat 8 (Machine.bitsOf w2 7 0)
    lines := BitVec.ofNat 16 (Machine.bitsOf w3 31 16)
    pixels := BitVec.ofNat 16 (Machine.bitsOf w3 15 0) }

/-- The pixels of payload words, two words a pixel (R196). -/
def pixelsOf : List Word → List Pixel
  | a :: b :: rest =>
    { r := BitVec.ofNat 16 (Machine.bitsOf a 31 16), g := BitVec.ofNat 16 (Machine.bitsOf a 15 0),
      b := BitVec.ofNat 16 (Machine.bitsOf b 31 16), ir := BitVec.ofNat 16 (Machine.bitsOf b 15 0) } :: pixelsOf rest
  | _ => []

/-- A scan-port cell that passed its link check, by its header and payload; a payload of another length than its kind's
has failed its check (R196; log 14). -/
def scanCellOf (header : Word) (payload : List Word) : Instr :=
  match Machine.bitsOf header 31 28, payload with
  | 0, [] => .idleCell
  | 1, [w1, w2, w3] => .reelOpen (rawHeaderOf w1 w2 w3)
  | 2, [w1] =>
    .frameOpen w1 (BitVec.ofNat 8 (Machine.bitsOf header 23 16)) (Machine.classOf (Machine.bitsOf header 27 26))
  | 3, ws =>
    if ws.length = 32 * (Machine.bitsOf header 7 0 + 1) then .line (pixelsOf ws) else .droppedCell .scan
  | 4, [] => .frameClose
  | 5, [] => .splice
  | 6, [] => .reelClose
  | _, _ => .droppedCell .scan

/-- The command of a cell received on the scan port: dropped unless its link check and its kind are right (R2). -/
def receiveScanCell (words : List Word) (check : BitVec 16) : Instr :=
  match words with
  | [] => .droppedCell .scan
  | h :: payload => if Machine.linkCheck words = check then scanCellOf h payload else .droppedCell .scan

/-- The command of a cell received on the ingest port: a SERVICE cell, or dropped (R2, R16, R196). -/
def receiveIngestCell (words : List Word) (check : BitVec 16) : Instr :=
  match words with
  | [h, w] =>
    if Machine.linkCheck words = check ∧ Machine.bitsOf h 31 28 = 9 then
      .serviceCell (Machine.bitOf h 1) (Machine.bitOf h 0) w
    else .droppedCell .ingest
  | _ => .droppedCell .ingest

end Sys2Proof
end

