-- ==== Sys2Proof/Machine/State.lean ====
section
/-! DEFINITION. The state of the TN412, block by block (00_scope 2), its power-on values, and the reasons a step can stop. -/
namespace Sys2Proof.Machine

/-- Three like things for the channels R, G and B. -/
structure Rgb (α : Type) where
  r : α
  g : α
  b : α
  deriving DecidableEq, Repr

/-! ## Reel table (chapter 2) -/

/-- Base type of a reel (R5). -/
inductive BaseType where
  | nitrate | acetate | polyester | unknown
  deriving DecidableEq, Repr

/-- A reel header after clamping (R5). -/
structure ReelHeader where
  reelId : Word
  base : BaseType
  acid : Nat
  holes : Nat
  lines : Nat
  pixels : Nat
  step : Nat
  deriving DecidableEq, Repr

/-- Acquisition sub-state of an ACTIVE record (R22). -/
inductive AcqState where
  | acquiring | lockedCollecting | locked | failed
  deriving DecidableEq, Repr

/-- Acquisition outcome field (R22). -/
inductive AcqOutcome where
  | none | locked | failed
  deriving DecidableEq, Repr

/-- Record states; the sub-state exists only while the record is ACTIVE (R21, R22). -/
inductive ReelState where
  | free
  | active (acq : AcqState)
  | draining
  | disposing
  deriving DecidableEq, Repr

/-- Condition class; `none` is NONE (R29, R163). -/
inductive CondClass where
  | none | classA | classB | classC | classD | classE
  deriving DecidableEq, Repr

/-- Outcome of a disposition (R29, R169). -/
inductive ReelOutcome where
  | none | placed | unplaced | rescan
  deriving DecidableEq, Repr

/-- Reason of an outcome (R169, R175). -/
inductive Reason where
  | none | duplicate | listFull | noBay | refusedTwice
  deriving DecidableEq, Repr

/-- Grade selection (R138). -/
inductive GradeSel where
  | fixed | programmed
  deriving DecidableEq, Repr

/-- The fourteen counters of a reel record (R32). -/
structure Counters where
  opened : Nat
  emitted : Nat
  dropped : Nat
  discarded : Nat
  held : Nat
  creep : Nat
  splices : Nat
  tearRuns : Nat
  scratches : Nat
  repaired : Nat
  unrepaired : Nat
  lost : Nat
  partials : Nat
  trims : Nat
  deriving DecidableEq, Repr

/-- A reel record (R21 to R32). A shrinkage of `none` is UNKNOWN. -/
structure ReelRecord where
  state : ReelState
  header : ReelHeader
  gradeSel : GradeSel
  gradeCheck : BitVec 16
  acqOutcome : AcqOutcome
  reelPitch : Nat
  reelShrinkage : Option Int
  peakShrinkage : Option Int
  maxGain : Nat
  closeMissing : Bool
  hold : Bool
  rescan : Bool
  finalClass : CondClass
  outcome : ReelOutcome
  reason : Reason
  bay : Nat
  placementId : Nat
  counters : Counters
  deriving DecidableEq, Repr

/-- The reel table: two records, the last-disposed record, the DISPOSING records in order of entry (R30), and the
refused-reel counter (R26). -/
structure ReelTable where
  recs : Vector ReelRecord 2
  last : ReelRecord
  waiting : List (Fin 2)
  refused : Nat
  deriving DecidableEq, Repr

/-! ## Tables (R200) -/

/-- Table 1, the registration table (R58). -/
structure RegTable where
  bandLo : Nat
  bandHi : Nat
  holeLevel : Nat
  holeFill : Nat
  holeMin : Nat
  holeMax : Nat
  minConf : Nat
  upConf : Nat
  maxShift : Nat
  unshrunkPitch : Nat
  acqMin : Nat
  acqTimeout : Nat
  fill : Nat
  deriving DecidableEq, Repr

/-- Table 2, the transport table (R84). -/
structure TransportTable where
  d0 : Nat
  d1 : Nat
  d2 : Nat
  u : Nat
  lowMark : Nat
  clipPm : Nat
  deriving DecidableEq, Repr

/-- Table 3, the defect table (R98); `sightings` is P and `misses` is F. -/
structure DefectTable where
  irLevel : Nat
  minRun : Nat
  scratchMinHeight : Nat
  scratchMaxWidth : Nat
  tearMinWidth : Nat
  drift : Nat
  sightings : Nat
  misses : Nat
  interpMax : Nat
  pixelBudget : Nat
  deriving DecidableEq, Repr

/-- Assessment area of a grade set (R135, R142). -/
structure Area where
  colLo : Nat
  colHi : Nat
  lineLo : Nat
  lineHi : Nat
  deriving DecidableEq, Repr

/-! ## Frame store (chapter 3) -/

/-- Slot states (R39). -/
inductive SlotState where
  | free | filling | closed | emitting | kept
  deriving DecidableEq, Repr

/-- Successor link (R44). -/
inductive SuccLink where
  | unsettled
  | pending (slot : Fin 4)
  | ready (slot : Fin 4)
  | none
  deriving DecidableEq, Repr

/-- Region classes (R107). -/
inductive RegionClass where
  | tear | scratch | dust
  deriving DecidableEq, Repr

/-- A region record: its box, OPEN or CLOSED while the frame fills, its class after the close, and the confirmed mark
of a SCRATCH region (chapter 6, 6.3). -/
structure Region where
  c0 : Nat
  c1 : Nat
  l0 : Nat
  l1 : Nat
  isOpen : Bool
  cls : Option RegionClass
  confirmed : Bool
  deriving DecidableEq, Repr

/-- Applied black and gain of one channel (R148). -/
structure Fade where
  black : Nat
  gain : Nat
  deriving DecidableEq, Repr

/-- Parameters latched at a frame's FRAME_OPEN (R40, R59, R99, R142). -/
structure Latch where
  reg : RegTable
  defect : DefectTable
  area : Area
  deriving DecidableEq, Repr

/-- A slot: its state, its slot record (R40) and the frame's stored lines. -/
structure Slot where
  state : SlotState
  tag : Option (Fin 2)
  frameNo : Word
  repStep : Nat
  repClass : SpeedClass
  lineCount : Nat
  latch : Latch
  dx : Int
  dy : Int
  confidence : Nat
  regHeld : Bool
  shiftClamped : Bool
  spliceBefore : Bool
  exposureChanged : Bool
  defectOverflow : Bool
  tearPresent : Bool
  regions : List Region
  regionsLost : Nat
  hist : Rgb (Vector Nat 64)
  fade : Rgb Fade
  link : SuccLink
  lines : List (List Pixel)
  deriving DecidableEq, Repr

/-- An entry of the emission list (R43). -/
inductive Entry where
  | frame (slot : Fin 4)
  | reelOpen (header : ReelHeader)
  | splice
  | reelClose
  deriving DecidableEq, Repr

/-- The frame status record (R18). -/
structure FrameStatus where
  frameNo : Word
  reelId : Word
  dx : Int
  dy : Int
  confidence : Nat
  untreated : Bool
  spliceBefore : Bool
  exposureChanged : Bool
  shiftClamped : Bool
  regHeld : Bool
  fade : Rgb Fade
  deriving DecidableEq, Repr

/-- The repair summary (R18, R132). -/
structure RepairSummary where
  repaired : Nat
  unrepaired : Nat
  lost : Nat
  aborted : Bool
  overflow : Bool
  cut : Bool
  deriving DecidableEq, Repr

/-- The emission under way: the EMITTING slot, the position of its next cell (0 is FRAME_OPEN, then the lines, then
FRAME_CLOSE), and the status record formed at its start (R46). -/
structure Emission where
  slot : Fin 4
  pos : Nat
  status : FrameStatus
  deriving DecidableEq, Repr

/-- The frame store. -/
structure FrameStore where
  slots : Vector Slot 4
  list : List Entry
  spliceSeen : Bool
  emission : Option Emission
  deriving DecidableEq, Repr

/-! ## Link unit (chapter 1) -/

/-- Scan-port receive state; the open frame's tag and line count stand in its slot record (R6). -/
inductive RxState where
  | between
  | filling (slot : Fin 4)
  | ignoring
  deriving DecidableEq, Repr

/-- A cell as it stands on the wire: its words and its link check (R196). -/
structure WireCell where
  words : List Word
  check : BitVec 16
  deriving DecidableEq, Repr

/-- What the end of the sending of an emitted part brings about: nothing, the departure of the control entry at the head
of the emission list (R48), or the emission end of the frame of a slot (R47). -/
inductive SentPart where
  | plain
  | control
  | frameClose
  deriving DecidableEq, Repr

/-- The outgoing ingest cell now being sent: what its emitted part does when sent, and whether it carries the second
copy of the last word of the message at the head of the reply queue (R186). -/
structure InFlight where
  part : SentPart
  lastCopy : Bool
  deriving DecidableEq, Repr

/-- The link unit, with the cell last composed on each port. -/
structure LinkUnit where
  errors : Nat
  pause : Bool
  rx : RxState
  lane : BitVec 4
  aborted : List RepairSummary
  scanOut : Option WireCell
  ingestOut : Option WireCell
  inFlight : Option InFlight
  deriving DecidableEq, Repr

/-! ## Registration unit (chapter 4) -/

/-- A run of perf lines: its top and the first bright column of each of its lines (R60, R61). -/
structure HoleRun where
  top : Nat
  firsts : List Nat
  deriving DecidableEq, Repr

/-- A used hole (R62, R63). -/
structure Hole where
  top : Nat
  len : Nat
  edge : Nat
  deriving DecidableEq, Repr

/-- Per-frame hole state (chapter 4, 4.2). -/
structure HoleState where
  run : Option HoleRun
  used : List Hole
  valid : Nat
  deriving DecidableEq, Repr

/-- The reference of the ACTIVE reel (R67). -/
structure Reference where
  ref16 : Nat
  edge : Nat
  deriving DecidableEq, Repr

/-- Close-test copy of acq_min and unshrunk_pitch (R77). -/
structure CloseCopy where
  acqMin : Nat
  unshrunkPitch : Nat
  deriving DecidableEq, Repr

/-- The registration unit (R82). -/
structure RegUnit where
  table : RegTable
  hole : HoleState
  ref : Option Reference
  goodDx : Int
  goodDy : Int
  sum : Nat
  count : Nat
  sinceOpen : Nat
  closeCopy : Option CloseCopy
  lastHeld : Bool
  deriving DecidableEq, Repr

/-! ## Transport control (chapter 5) -/

/-- Transport control: the directive and the state it is computed from (R83). -/
structure Transport where
  table : TransportTable
  cls : SpeedClass
  ceiling : SpeedClass
  heldRun : Nat
  goodRun : Nat
  cmdStep : Nat
  mismatch : Nat
  stale : Bool
  lastReported : Option Nat
  hyst : Bool
  loadHold : Bool
  deriving DecidableEq, Repr

/-! ## Defect unit (chapter 6) -/

/-- Track states (chapter 6, 6.5). -/
inductive TrackState where
  | candidate | confirmed
  deriving DecidableEq, Repr

/-- A scratch track (R109). -/
structure Track where
  c0 : Nat
  c1 : Nat
  lastFrame : Word
  seen : Nat
  missing : Nat
  state : TrackState
  matched : Bool
  deriving DecidableEq, Repr

/-- Tear memory: the last closed frame's number and whether it held a TEAR region (R108). -/
structure TearMemory where
  frameNo : Word
  torn : Bool
  deriving DecidableEq, Repr

/-- The defect unit (R118). -/
structure DefectUnit where
  table : DefectTable
  tracks : List Track
  tearMem : Option TearMemory
  deriving DecidableEq, Repr

/-! ## Repair engine (chapter 7) -/

/-- Repair methods (R119). -/
inductive Method where
  | substPrev | substNext | interp | noneTear | noneWide | noneBudget
  deriving DecidableEq, Repr

/-- A repair plan (R119); `cut` is REPAIR_PARTIAL. -/
structure Plan where
  slot : Fin 4
  pred : Option (Fin 4)
  succ : Option (Fin 4)
  methods : List Method
  cut : Bool
  repaired : Nat
  unrepaired : Nat
  deriving DecidableEq, Repr

/-! ## Grading pipeline (chapter 8) -/

/-- A grade set: 223 values in index order (R135). -/
abbrev GradeSet := Vector Int 223

/-- A trim: gain and offset of R, G and B (R154). -/
structure Trim where
  gain : Rgb Nat
  offset : Rgb Int
  deriving DecidableEq, Repr

/-- Fade state of one channel (R145). -/
structure ChannelFade where
  black : Nat
  gain : Nat
  direct : Bool
  deriving DecidableEq, Repr

/-- The grading pipeline (R157). -/
structure Grading where
  prog : GradeSet
  progCheck : BitVec 16
  sel : GradeSel
  pendingTrim : Trim
  written : Bool
  trim : Trim
  fade : Rgb ChannelFade
  deriving DecidableEq, Repr

/-! ## Shelving unit (chapter 9) -/

/-- Comparison of a policy entry (R158, R161). -/
inductive Comparison where
  | atLeast | below | differs
  deriving DecidableEq, Repr

/-- Action of a policy entry (R158, R163). -/
inductive PolicyAction where
  | none | worsen | hold | rescan
  deriving DecidableEq, Repr

/-- A policy entry (R158). The target class is held as its code: 1 to 4 for B to E; 0 stands only until the entry is
first written, and is taken as B. -/
structure PolicyEntry where
  field : Nat
  cmp : Comparison
  andPrevious : Bool
  whenFalse : Bool
  action : PolicyAction
  target : Nat
  operand : BitVec 16
  deriving DecidableEq, Repr

/-- A bay (R165). -/
structure Bay where
  enabled : Bool
  conservation : Bool
  refusalHold : Bool
  polyester : Bool
  acetate : Bool
  nitrate : Bool
  classes : BitVec 5
  capacity : Nat
  occupied : Nat
  deriving DecidableEq, Repr

/-- An entry of the placement list (R170). -/
structure Placement where
  id : Nat
  reelId : Word
  bay : Fin 64
  cls : CondClass
  base : BaseType
  hold : Bool
  attempts : Nat
  deriving DecidableEq, Repr

/-- The shelving unit (R180). -/
structure Shelving where
  policy : Vector PolicyEntry 24
  bays : Vector Bay 64
  placements : List Placement
  nextId : Nat
  deriving DecidableEq, Repr

/-! ## Service engine (chapter 10) -/

/-- Pair state of the incoming service slots (R181). -/
inductive PairState where
  | expectFirst
  | haveFirst (copy : Word)
  deriving DecidableEq, Repr

/-- Framing state: WAITING, or OPEN with the receive buffer, the body words still due and the timeout count (R183, R184). -/
inductive Framing where
  | waiting
  | collecting (buffer : List Word) (due : Nat) (timeout : Nat)
  deriving DecidableEq, Repr

/-- A queued message: its words, and whether it holds the notice position (R186). -/
structure Message where
  notice : Bool
  words : List Word
  deriving DecidableEq, Repr

/-- Kind of the last fault recorded (R191). -/
inductive FaultKind where
  | none | mismatch | orphan | timeout | replyFull
  deriving DecidableEq, Repr

/-- The six latched attention causes (R193). -/
structure Causes where
  linkFault : Bool
  frameLost : Bool
  serviceFault : Bool
  tear : Bool
  acqFailed : Bool
  condChange : Bool
  deriving DecidableEq, Repr

/-- The service engine (R195). `copies` counts the copies of the head message's words composed so far; `leftover` is a
word whose second copy is still due after a RESET (R194). -/
structure Service where
  pair : PairState
  framing : Framing
  queue : List Message
  copies : Nat
  leftover : Option Word
  faultKind : FaultKind
  faultCount : Nat
  stray : Nat
  mask : BitVec 11
  summary : Bool
  causes : Causes
  resetSeen : Bool
  deriving DecidableEq, Repr

/-! ## The machine -/

/-- The state of the part: the queue of waiting commands, the level of the NPOR pin, and the ten blocks. -/
structure State where
  pending : List Instr
  npor : Bool
  link : LinkUnit
  reels : ReelTable
  store : FrameStore
  reg : RegUnit
  xport : Transport
  defect : DefectUnit
  repair : Option Plan
  grade : Grading
  shelf : Shelving
  svc : Service
  deriving DecidableEq, Repr

/-- Reasons the machine stops. The TN412 has none: a spoiled cell, a bad frame, a service fault and a refused request
are all next states. -/
inductive Fault where
  /-- Raised by no command (log 16). Safe: the model never stops where the part goes on. -/
  | neverRaised
  deriving DecidableEq, Repr

/-- Reasons a command has no meaning. -/
inductive Refusal where
  /-- A row of the table that has no meaning yet. Raised by no command: every row is modelled. Safe. -/
  | notModelled (mnemonic : String)
  deriving DecidableEq, Repr

/-! ## Power-on values -/

/-- A channel-wise constant. -/
def rgbAll {α : Type} (v : α) : Rgb α := ⟨v, v, v⟩

/-- A header of zeros (R37). -/
def zeroHeader : ReelHeader := ⟨0, .nitrate, 0, 0, 0, 0, 0⟩

/-- Counters all 0. -/
def zeroCounters : Counters := ⟨0, 0, 0, 0, 0, 0, 0, 0, 0, 0, 0, 0, 0, 0⟩

/-- A record after power-on (R35, R37). -/
def freeRecord : ReelRecord :=
  { state := .free, header := zeroHeader, gradeSel := .fixed, gradeCheck := 0, acqOutcome := .none, reelPitch := 0,
    reelShrinkage := none, peakShrinkage := none, maxGain := 0, closeMissing := false, hold := false, rescan := false,
    finalClass := .none, outcome := .none, reason := .none, bay := 0, placementId := 0, counters := zeroCounters }

/-- Table 1 after power-on (R58, R200). -/
def defaultRegTable : RegTable :=
  { bandLo := 0, bandHi := 255, holeLevel := 50000, holeFill := 160, holeMin := 80, holeMax := 200, minConf := 32,
    upConf := 56, maxShift := 64, unshrunkPitch := 12480, acqMin := 24, acqTimeout := 96, fill := 0 }

/-- Table 2 after power-on (R84, R200). -/
def defaultTransportTable : TransportTable :=
  { d0 := 6, d1 := 12, d2 := 24, u := 48, lowMark := 40000, clipPm := 2 }

/-- Table 3 after power-on (R98, R200). -/
def defaultDefectTable : DefectTable :=
  { irLevel := 12000, minRun := 2, scratchMinHeight := 2400, scratchMaxWidth := 24, tearMinWidth := 512, drift := 4,
    sightings := 3, misses := 5, interpMax := 32, pixelBudget := 1048576 }

/-- Histograms all 0 (R40, R141). -/
def emptyHist : Rgb (Vector Nat 64) := rgbAll (Vector.replicate 64 0)

/-- A slot after power-on: FREE (R57). Its record is read by no block; DESIGN CHOICE: zeros (log 6). -/
def freeSlot : Slot :=
  { state := .free, tag := none, frameNo := 0, repStep := 0, repClass := .s0, lineCount := 0,
    latch := ⟨defaultRegTable, defaultDefectTable, ⟨0, 0, 0, 0⟩⟩, dx := 0, dy := 0, confidence := 0, regHeld := false,
    shiftClamped := false, spliceBefore := false, exposureChanged := false, defectOverflow := false,
    tearPresent := false, regions := [], regionsLost := 0, hist := emptyHist, fade := rgbAll ⟨0, 16384⟩, link := .none,
    lines := [] }

/-- No run, no used hole, no valid hole (R60). -/
def emptyHole : HoleState := ⟨none, [], 0⟩

/-- Trim at identity (R154). -/
def identityTrim : Trim := ⟨rgbAll 4096, rgbAll 0⟩

/-- Fade state after power-on and after the RESET verb (R145). -/
def resetFade : Rgb ChannelFade := rgbAll ⟨0, 16384, true⟩

/-- The programmed set after power-on (R137). -/
def zeroGradeSet : GradeSet := Vector.replicate 223 0

/-- A policy entry of two zero words: END with operand 0 (R158). -/
def endEntry : PolicyEntry := ⟨0, .atLeast, false, false, .none, 0, 0⟩

/-- A bay of two zero words (R165). -/
def offBay : Bay := ⟨false, false, false, false, false, false, 0, 0, 0⟩

/-- No latched cause. -/
def noCauses : Causes := ⟨false, false, false, false, false, false⟩

/-- The state right after a rise of NPOR with the straps reading `lane` (R201 and the reset rule of each chapter). -/
def powerOnState (lane : BitVec 4) : State :=
  { pending := []
    npor := true
    link := { errors := 0, pause := false, rx := .between, lane := lane, aborted := [], scanOut := none,
              ingestOut := none, inFlight := none }
    reels := { recs := Vector.replicate 2 freeRecord, last := freeRecord, waiting := [], refused := 0 }
    store := { slots := Vector.replicate 4 freeSlot, list := [], spliceSeen := false, emission := none }
    reg := { table := defaultRegTable, hole := emptyHole, ref := none, goodDx := 0, goodDy := 0, sum := 0, count := 0,
             sinceOpen := 0, closeCopy := none, lastHeld := false }
    xport := { table := defaultTransportTable, cls := .s0, ceiling := .s0, heldRun := 0, goodRun := 0, cmdStep := 0,
               mismatch := 0, stale := false, lastReported := none, hyst := false, loadHold := false }
    defect := { table := defaultDefectTable, tracks := [], tearMem := none }
    repair := none
    grade := { prog := zeroGradeSet, progCheck := gradeChecksum zeroGradeSet.toList, sel := .fixed,
               pendingTrim := identityTrim, written := false, trim := identityTrim, fade := resetFade }
    shelf := { policy := Vector.replicate 24 endEntry, bays := Vector.replicate 64 offBay, placements := [],
               nextId := 1 }
    svc := { pair := .expectFirst, framing := .waiting, queue := [], copies := 0, leftover := none, faultKind := .none,
             faultCount := 0, stray := 0, mask := Config.defaultMask, summary := true,
             causes := { noCauses with condChange := true }, resetSeen := true } }

/-- The machine right after power-on with the straps reading 0 (DESIGN CHOICE, log 3) and no command waiting. -/
def State.reset : State := powerOnState 0

end Sys2Proof.Machine
end

