-- ==== Sys2Proof/Machine/Operands.lean ====
section
/-! DEFINITION. Operands: the clamping of received header fields (R4, R5) and the codes of enumerated fields (R197 to R200). -/
namespace Sys2Proof.Machine

/-- Base type of a two-bit code (R197). -/
def baseOf (c : BitVec 2) : BaseType :=
  match c.toNat with
  | 0 => .nitrate
  | 1 => .acetate
  | 2 => .polyester
  | _ => .unknown

/-- Code of a base type (R197). -/
def baseCode : BaseType → Nat
  | .nitrate => 0
  | .acetate => 1
  | .polyester => 2
  | .unknown => 3

/-- Exposure steps above 31 are taken as 31 (R4, R5). -/
def clampStep (b : Byte) : Nat := min 31 b.toNat

/-- Pixels per line: clamped to 256 to 4096, then rounded down to a multiple of 16 (R5). -/
def clampPixels (v : Nat) : Nat := clampNat 256 4096 v / 16 * 16

/-- The clamped reel header (R5). -/
def clampHeader (h : RawHeader) : ReelHeader :=
  { reelId := h.reelId
    base := baseOf h.base
    acid := min 3 h.acid.toNat
    holes := clampNat 1 8 h.holes.toNat
    lines := clampNat 64 3120 h.lines.toNat
    pixels := clampPixels h.pixels.toNat
    step := clampStep h.step }

/-- Code of a class: 0 NONE, 1 to 5 for A to E (R199). -/
def classCode : CondClass → Nat
  | .none => 0
  | .classA => 1
  | .classB => 2
  | .classC => 3
  | .classD => 4
  | .classE => 5

/-- Code of an outcome (R199). -/
def outcomeCode : ReelOutcome → Nat
  | .none => 0
  | .placed => 1
  | .unplaced => 2
  | .rescan => 3

/-- Code of a reason (R199). -/
def reasonCode : Reason → Nat
  | .none => 0
  | .duplicate => 1
  | .listFull => 2
  | .noBay => 3
  | .refusedTwice => 4

/-- Code of a record state (R199, word 2 of READ_REEL). -/
def stateCode : ReelState → Nat
  | .free => 0
  | .active _ => 1
  | .draining => 2
  | .disposing => 3

/-- Code of the acquisition sub-state; 15 when the record is not ACTIVE (R199). -/
def acqCode : ReelState → Nat
  | .active .acquiring => 0
  | .active .lockedCollecting => 1
  | .active .locked => 2
  | .active .failed => 3
  | _ => 15

/-- Code of the acquisition outcome (R199). -/
def acqOutcomeCode : AcqOutcome → Nat
  | .none => 0
  | .locked => 1
  | .failed => 2

/-- Code of a fault kind (R199). -/
def faultCode : FaultKind → Nat
  | .none => 0
  | .mismatch => 1
  | .orphan => 2
  | .timeout => 3
  | .replyFull => 4

/-- Target class of a policy entry's code: 1 to 4 for B to E; 0 is taken as B (R158). -/
def targetClass (code : Nat) : CondClass :=
  match code with
  | 0 => .classB
  | 1 => .classB
  | 2 => .classC
  | 3 => .classD
  | _ => .classE

end Sys2Proof.Machine
end

