-- ==== Sys2Proof/Machine/Flags.lean ====
section
/-! DEFINITION. The part's summary of itself: the condition word, the attention causes, the summary flag and the fault
record (R191 to R193), and the settling of an event (R192: judged on the settled value; R83, R96: LOAD_HOLD). -/
namespace Sys2Proof.Machine

/-- The two record indexes in order. -/
def recIdx : List (Fin 2) := [0, 1]

/-- The four slot indexes in order. -/
def slotIdx : List (Fin 4) := [0, 1, 2, 3]

/-- A reel record. -/
def State.reel (s : State) (r : Fin 2) : ReelRecord := s.reels.recs.get r

/-- A slot. -/
def State.slot (s : State) (k : Fin 4) : Slot := s.store.slots.get k

/-- The record is ACTIVE (R21). -/
def ReelRecord.isActive (r : ReelRecord) : Bool :=
  match r.state with
  | .active _ => true
  | _ => false

/-- The record is occupied: ACTIVE, DRAINING or DISPOSING (R21). -/
def ReelRecord.occupied (r : ReelRecord) : Bool :=
  match r.state with
  | .free => false
  | _ => true

/-- The index of the ACTIVE record, if one exists (R7, R34). -/
def activeRec (s : State) : Option (Fin 2) := recIdx.find? fun r => (s.reel r).isActive

/-- Acquisition locked: the ACTIVE record's sub-state is LOCKED (R34). -/
def acqLocked (s : State) : Bool := recIdx.any fun r => decide ((s.reel r).state = .active .locked)

/-- Both records are occupied (R34). -/
def bothOccupied (s : State) : Bool := recIdx.all fun r => (s.reel r).occupied

/-- At least one record is occupied (R34). -/
def anyOccupied (s : State) : Bool := recIdx.any fun r => (s.reel r).occupied

/-- WINDOW_TAINTED: a slot that is not FREE holds a frame with REG_HELD set (R54). -/
def windowTainted (s : State) : Bool :=
  slotIdx.any fun k => decide ((s.slot k).state ≠ .free) && (s.slot k).regHeld

/-- The eleven condition bits, bit 0 first (R192, R199). -/
def conditionBits (s : State) : List Bool :=
  [ (activeRec s).isSome, acqLocked s, decide (s.xport.cls ≠ .s0), s.xport.loadHold, s.reg.lastHeld, windowTainted s,
    decide (s.grade.sel = .programmed), s.link.pause, !s.shelf.placements.isEmpty, s.xport.stale, s.svc.resetSeen ]

/-- A list of bits, bit 0 first, as a number. -/
def bitsNat : List Bool → Nat
  | [] => 0
  | b :: bs => flag b + 2 * bitsNat bs

/-- The condition word (R192, R199). -/
def conditionWord (s : State) : BitVec 11 := BitVec.ofNat 11 (bitsNat (conditionBits s))

/-- The attention causes, codes 1 to 7 in order; PLACEMENTS_HIGH is a level (R193). -/
def causeBits (s : State) : List Bool :=
  [ s.svc.causes.linkFault, s.svc.causes.frameLost, s.svc.causes.serviceFault, s.svc.causes.tear,
    s.svc.causes.acqFailed, s.xport.hyst, s.svc.causes.condChange ]

/-- The attention code: the lowest-numbered pending cause, 0 when none is pending (R193). -/
def attentionCode (s : State) : Nat :=
  match (causeBits s).findIdx? (fun b => b) with
  | some i => i + 1
  | none => 0

/-- Names of the latched causes (R193). -/
inductive Cause where
  | linkFault | frameLost | serviceFault | tear | acqFailed | condChange
  deriving DecidableEq, Repr

/-- A cause latched as pending (R193). -/
def latchCause (c : Cause) (cs : Causes) : Causes :=
  match c with
  | .linkFault => { cs with linkFault := true }
  | .frameLost => { cs with frameLost := true }
  | .serviceFault => { cs with serviceFault := true }
  | .tear => { cs with tear := true }
  | .acqFailed => { cs with acqFailed := true }
  | .condChange => { cs with condChange := true }

/-- Raise an attention cause (R193). -/
def raiseCause (c : Cause) (s : State) : State :=
  { s with svc := { s.svc with causes := latchCause c s.svc.causes } }

/-- Record a service fault: its kind, the count, and SERVICE_FAULT (R193). -/
def recordFault (k : FaultKind) (s : State) : State :=
  raiseCause .serviceFault
    { s with svc := { s.svc with faultKind := k, faultCount := satAdd 255 s.svc.faultCount 1 } }

/-- LOAD_HOLD recomputed: on while the hysteresis flag is on or both records are occupied (R96). -/
def recomputeLoadHold (s : State) : State :=
  { s with xport := { s.xport with loadHold := s.xport.hyst || bothOccupied s } }

/-- Unmasked condition bits that differ between two states (R192). -/
def unmaskedChange (before after : State) : Bool :=
  decide ((conditionWord before ^^^ conditionWord after) &&& after.svc.mask ≠ 0)

/-- The end of an event: LOAD_HOLD on the settled values, then, where an unmasked condition bit's settled value differs
from its value before the event, the summary flag and CONDITION_CHANGE (R83, R96, R192). -/
def settle (before after : State) : State :=
  let t := recomputeLoadHold after
  if unmaskedChange before t then
    raiseCause .condChange { t with svc := { t.svc with summary := true } }
  else t

end Sys2Proof.Machine
end

