-- ==== Sys2Proof/Machine/Registration.lean ====
section
/-! DEFINITION. The registration unit's computations: holes (R60 to R63), confidence, holding and offsets (R64 to R71), pitch
samples and shrinkage (R72 to R74), and the acquisition (R75 to R77). -/
namespace Sys2Proof.Machine

/-! ## Holes -/

/-- The columns of a line that lie in the perforation band and are bright, from the left (R60). -/
def brightColumns (t : RegTable) (line : List Pixel) : List Nat :=
  (line.zipIdx.filter fun x =>
    decide (t.bandLo ≤ x.2) && decide (x.2 ≤ t.bandHi) && decide (t.holeLevel ≤ x.1.ir.toNat)).map (·.2)

/-- A run's hole is valid: its length in range, its top not line 0, its last line not the frame's last (R61). -/
def holeValid (t : RegTable) (lines top len : Nat) : Bool :=
  decide (t.holeMin ≤ len) && decide (len ≤ t.holeMax) && decide (top ≠ 0) && decide (top + len ≠ lines)

/-- The open run ended and judged; a valid hole is counted and, while fewer than `e` are used, entered (R61 to R63). -/
def endRun (t : RegTable) (e lines : Nat) (h : HoleState) : HoleState :=
  match h.run with
  | none => h
  | some r =>
    let len := r.firsts.length
    if holeValid t lines r.top len then
      { run := none
        used := if h.used.length < e then h.used ++ [⟨r.top, len, r.firsts.getD (len / 2) 0⟩] else h.used
        valid := satAdd 255 h.valid 1 }
    else { h with run := none }

/-- A perf line opens a run or grows the open one (R61). -/
def growRun (y col : Nat) (h : HoleState) : HoleState :=
  match h.run with
  | none => { h with run := some ⟨y, [col]⟩ }
  | some r => { h with run := some { r with firsts := r.firsts ++ [col] } }

/-- The hole state after line `y` of a treated frame (R60, R61). -/
def regLine (t : RegTable) (e lines y : Nat) (line : List Pixel) (h : HoleState) : HoleState :=
  match brightColumns t line with
  | [] => endRun t e lines h
  | c :: cs => if t.holeFill ≤ (c :: cs).length then growRun y c h else endRun t e lines h

/-! ## Confidence, holding, offsets -/

/-- Confidence of a frame with n used holes of E expected (R64). -/
def confidenceOf (n e : Nat) : Nat := n * 64 / e

/-- A frame is held: its confidence is below min_conf, or it has no used hole (R65). -/
def frameHeld (t : RegTable) (n e : Nat) : Bool := decide (confidenceOf n e < t.minConf) || decide (n = 0)

/-- Slot of a hole: whole pitches from the reference, rounded to the nearest (R70). -/
def holeSlot (p16 ref16 top : Nat) : Int := ((top : Int) * 16 - ref16 + (p16 / 2 : Nat)) / p16

/-- Deviation of a hole from where its slot is expected (R70). -/
def holeDev (p16 ref16 top : Nat) : Int := (top : Int) * 16 - ref16 - holeSlot p16 ref16 top * p16

/-- The mean deviation in whole lines, rounded half upward (R71). -/
def meanDev (p16 ref16 : Nat) (used : List Hole) : Int :=
  ((used.map fun h => holeDev p16 ref16 h.top).sum + 8 * (used.length : Int)) / (16 * (used.length : Int))

/-- The pitch sample of a non-held frame, if its first and last used holes lie in different slots (R72). -/
def pitchSample (p16 ref16 : Nat) (used : List Hole) : Option Nat :=
  match used.head?, used.getLast? with
  | some f, some l =>
    let d := holeSlot p16 ref16 l.top - holeSlot p16 ref16 f.top
    if d = 0 then none else some ((((l.top : Int) - f.top) * 16 + d / 2) / d).toNat
  | _, _ => none

/-- What a close finds: offsets, clamping, pitch sample, and the reference and last good offsets it leaves. -/
structure Measure where
  dx : Int
  dy : Int
  clamped : Bool
  sample : Option Nat
  ref : Option Reference
  goodDx : Int
  goodDy : Int
  deriving DecidableEq, Repr

/-- An offset clamped to ±max_shift (R66, R71). -/
def clampShift (t : RegTable) (v : Int) : Int := clampInt (-(t.maxShift : Int)) t.maxShift v

/-- A clamp to ±max_shift changes one of the two offsets (R66, R71). -/
def shiftChanged (t : RegTable) (dx dy : Int) : Bool :=
  decide (clampShift t dx ≠ dx) || decide (clampShift t dy ≠ dy)

/-- A held frame borrows the last good offsets and leaves reference and offsets as they were (R66). -/
def measureHeld (t : RegTable) (u : RegUnit) : Measure :=
  { dx := clampShift t u.goodDx, dy := clampShift t u.goodDy, clamped := shiftChanged t u.goodDx u.goodDy,
    sample := none, ref := u.ref, goodDx := u.goodDx, goodDy := u.goodDy }

/-- A non-held frame with first used hole `first`: it sets an absent reference and takes 0 and 0 (R67), or is measured
against the standing one (R70, R71); its pitch sample is taken either way (R72). -/
def measureGood (t : RegTable) (p16 : Nat) (first : Hole) (used : List Hole) (u : RegUnit) : Measure :=
  match u.ref with
  | none =>
    { dx := 0, dy := 0, clamped := false, sample := pitchSample p16 (first.top * 16) used,
      ref := some ⟨first.top * 16, first.edge⟩, goodDx := 0, goodDy := 0 }
  | some r =>
    let dx := (first.edge : Int) - r.edge
    let dy := meanDev p16 r.ref16 used
    { dx := clampShift t dx, dy := clampShift t dy, clamped := shiftChanged t dx dy,
      sample := pitchSample p16 r.ref16 used, ref := some r, goodDx := clampShift t dx, goodDy := clampShift t dy }

/-- Steps 3 to 5 of the close (R79). -/
def measure (t : RegTable) (p16 e : Nat) (used : List Hole) (u : RegUnit) : Measure :=
  match used with
  | [] => measureHeld t u
  | h :: hs => if frameHeld t (h :: hs).length e then measureHeld t u else measureGood t p16 h (h :: hs) u

/-! ## Shrinkage and acquisition -/

/-- Shrinkage of a pitch p against a nominal pitch u, rounded half away from zero (R73). -/
def shrinkage (p u : Nat) : Int := roundHalfAway (((u : Int) - p) * 10000) u

/-- The acquisition still collects: ACQUIRING or LOCKED_COLLECTING (R75). -/
def collecting (r : ReelRecord) : Bool :=
  match r.state with
  | .active .acquiring => true
  | .active .lockedCollecting => true
  | _ => false

/-- The mean sample rounded half upward (R76). -/
def meanPitch (sum count : Nat) : Nat := (sum + count / 2) / count

/-- The acquisition settled: LOCKED with pitch and shrinkage if enough samples are in hand, FAILED otherwise (R76). -/
def settleAcq (acqMin unshrunk sum count : Nat) (r : ReelRecord) : ReelRecord :=
  if acqMin ≤ count then
    { r with state := .active .locked, acqOutcome := .locked, reelPitch := meanPitch sum count,
             reelShrinkage := some (shrinkage (meanPitch sum count) unshrunk) }
  else { r with state := .active .failed, acqOutcome := .failed }

/-- A sample added to the accumulators (R75). -/
def addSample (sample : Option Nat) (u : RegUnit) : RegUnit :=
  match sample with
  | none => u
  | some p => { u with sum := u.sum + p, count := u.count + 1 }

/-- The accumulators after a close's acquisition step (R75). -/
def acqCount (sample : Option Nat) (r : ReelRecord) (u : RegUnit) : RegUnit :=
  let u1 := { u with sinceOpen := satAdd 65535 u.sinceOpen 1 }
  if collecting r then addSample sample u1 else u1

/-- ACQUIRING moves to LOCKED_COLLECTING when enough samples are in hand (R75). -/
def acqAdvance (acqMin count : Nat) (r : ReelRecord) : ReelRecord :=
  match r.state with
  | .active .acquiring => if acqMin ≤ count then { r with state := .active .lockedCollecting } else r
  | _ => r

/-- The per-frame shrinkage taken into `peak_shrinkage` once LOCKED (R74). -/
def takePeak (sample : Option Nat) (unshrunk : Nat) (r : ReelRecord) : ReelRecord :=
  match r.state, sample with
  | .active .locked, some p =>
    { r with peakShrinkage := some (match r.peakShrinkage with
        | none => shrinkage p unshrunk
        | some q => max q (shrinkage p unshrunk)) }
  | _, _ => r

/-- The pitch in use (R69). -/
def pitchInUse (r : ReelRecord) (t : RegTable) : Nat :=
  match r.state with
  | .active .locked => r.reelPitch
  | _ => t.unshrunkPitch

/-- The reference and the last good offsets dropped (R68). -/
def dropReference (u : RegUnit) : RegUnit := { u with ref := none, goodDx := 0, goodDy := 0 }

/-- The registration unit at the opening of a record (R82). -/
def regOpen (u : RegUnit) : RegUnit :=
  { dropReference u with sum := 0, count := 0, sinceOpen := 0, closeCopy := none }

/-- The registration unit after the RESET verb (R82). -/
def regReset (u : RegUnit) : RegUnit := { regOpen u with hole := emptyHole, lastHeld := false }

end Sys2Proof.Machine
end

