-- ==== Sys2Proof/Machine/Defects.lean ====
section
/-! DEFINITION. The defect unit's computations: defect pixels and segments (R100, R101), region building (R102 to R106),
classification (R107), and scratch tracks (R109 to R114). -/
namespace Sys2Proof.Machine

/-- A defect pixel: dark, and outside the perforation band (R100). -/
def isDefect (l : Latch) (x : Nat) (p : Pixel) : Bool :=
  decide (p.ir.toNat < l.defect.irLevel) && (decide (x < l.reg.bandLo) || decide (l.reg.bandHi < x))

/-- The maximal runs of set marks, as first and last columns, from column `x` on; `cur` is the start of the run that is
open (R101). -/
def markRuns : List Bool → Nat → Option Nat → List (Nat × Nat)
  | [], _, none => []
  | [], x, some s => [(s, x - 1)]
  | true :: bs, x, none => markRuns bs (x + 1) (some x)
  | true :: bs, x, some s => markRuns bs (x + 1) (some s)
  | false :: bs, x, none => markRuns bs (x + 1) none
  | false :: bs, x, some s => (s, x - 1) :: markRuns bs (x + 1) none

/-- The segments of a line: its runs of at least min_run defect pixels, from the left (R101). -/
def segmentsOf (l : Latch) (line : List Pixel) : List (Nat × Nat) :=
  (markRuns (line.zipIdx.map fun x => isDefect l x.2 x.1) 0 none).filter fun s =>
    decide (l.defect.minRun ≤ s.2 - s.1 + 1)

/-- The region table under construction, DEFECT_OVERFLOW and the count of discarded segments (chapter 6, 6.3). -/
structure RegionWork where
  regions : List Region
  overflow : Bool
  lost : Nat
  deriving DecidableEq, Repr

/-- A region that a segment of line `y` may touch: OPEN, and with last line y − 1 when line y began. R103 says first that a
region extended earlier on line y is not one of them, then that it still is; the second holds here, as 6.3.1 works it at line
101 (DESIGN CHOICE, log 28). -/
def wasOpenAt (y : Nat) (r : Region) : Bool := r.isOpen && decide (r.l0 < y) && decide (y ≤ r.l1 + 1)

/-- The segment touches the region, its span widened by one column on each side (R103). -/
def touches (y : Nat) (seg : Nat × Nat) (r : Region) : Bool :=
  wasOpenAt y r && decide (seg.1 ≤ r.c1 + 1) && decide (r.c0 ≤ seg.2 + 1)

/-- A region extended by another one's box (R104). -/
def hull (a b : Region) : Region :=
  { a with c0 := min a.c0 b.c0, c1 := max a.c1 b.c1, l0 := min a.l0 b.l0, l1 := max a.l1 b.l1 }

/-- The first region that satisfies `p` replaced by `r`; every other one that does leaves the list (R104). -/
def absorb (p : Region → Bool) (r : Region) : List Region → List Region
  | [] => []
  | x :: xs => if p x then r :: xs.filter (fun z => !p z) else x :: absorb p r xs

/-- The region a segment makes (R103). -/
def newRegion (y : Nat) (seg : Nat × Nat) : Region := ⟨seg.1, seg.2, y, y, true, none, false⟩

/-- One segment taken against the regions: a new region, an extension, a merge, or an overflow (R103, R104, R106). -/
def takeSegment (y : Nat) (w : RegionWork) (seg : Nat × Nat) : RegionWork :=
  match w.regions.filter (touches y seg) with
  | [] =>
    if w.regions.length < Config.maxRegions then { w with regions := w.regions ++ [newRegion y seg] }
    else { w with overflow := true, lost := satAdd 65535 w.lost 1 }
  | r :: rs => { w with regions := absorb (touches y seg) (rs.foldl hull (hull r (newRegion y seg))) w.regions }

/-- At the end of line `y` every OPEN region that no segment of the line touched becomes CLOSED (R105). -/
def closeUntouched (y : Nat) (r : Region) : Region := if r.l1 = y then r else { r with isOpen := false }

/-- The region table after line `y` (R103 to R106). -/
def regionLine (l : Latch) (y : Nat) (line : List Pixel) (w : RegionWork) : RegionWork :=
  let w1 := (segmentsOf l line).foldl (takeSegment y) w
  { w1 with regions := w1.regions.map (closeUntouched y) }

/-- Width of a region (chapter 6, 6.3). -/
def regionWidth (r : Region) : Nat := r.c1 + 1 - r.c0

/-- Height of a region. -/
def regionHeight (r : Region) : Nat := r.l1 + 1 - r.l0

/-- Area of a region's box (R124). -/
def regionArea (r : Region) : Nat := regionWidth r * regionHeight r

/-! ## Classification and tracks -/

/-- The class of a region by its width and height (R107). -/
def classifyBox (d : DefectTable) (r : Region) : RegionClass :=
  if d.tearMinWidth ≤ regionWidth r then .tear
  else if d.scratchMinHeight ≤ regionHeight r ∧ regionWidth r ≤ d.scratchMaxWidth then .scratch
  else .dust

/-- A track's span overlaps the region's span widened by drift (R111). -/
def spanMeets (drift : Nat) (r : Region) (t : Track) : Bool :=
  decide (r.c0 ≤ t.c1 + drift) && decide (t.c0 ≤ r.c1 + drift)

/-- Candidate gate: candidates not last seen in the frame numbered one less are deleted (R110). -/
def candidateGate (frameNo : Word) (ts : List Track) : List Track :=
  ts.filter fun t => decide (t.state = .confirmed) || decide (t.lastFrame.toNat + 1 = frameNo.toNat)

/-- The matched-this-frame marks cleared (R109). -/
def clearMarks (ts : List Track) : List Track := ts.map fun t => { t with matched := false }

/-- Step 1 of a match: the sighting is counted once a close (R111). -/
def sight (d : DefectTable) (frameNo : Word) (t : Track) : Track :=
  if t.matched then t
  else
    let n := satAdd 65535 t.seen 1
    { t with matched := true, seen := n, missing := 0, lastFrame := frameNo,
             state := if d.sightings ≤ n then .confirmed else t.state }

/-- A matched track after steps 1 and 3 (R111). -/
def matchTrack (d : DefectTable) (frameNo : Word) (r : Region) (t : Track) : Track :=
  { sight d frameNo t with c0 := r.c0, c1 := r.c1 }

/-- The track an unmatched scratch-like region makes (R113). -/
def newTrack (d : DefectTable) (frameNo : Word) (r : Region) : Track :=
  { c0 := r.c0, c1 := r.c1, lastFrame := frameNo, seen := 1, missing := 0,
    state := if d.sightings ≤ 1 then .confirmed else .candidate, matched := true }

/-- A scratch-like region matched against the list, or making a track, with its confirmed mark (R111, R113). -/
def trackRegion (d : DefectTable) (frameNo : Word) (r : Region) (ts : List Track) : Bool × List Track :=
  match ts.findIdx? (spanMeets d.drift r) with
  | some i =>
    match ts[i]? with
    | some t =>
      let t' := matchTrack d frameNo r t
      (decide (t'.state = .confirmed),
        ts.take i ++ t' :: (ts.drop (i + 1)).filter (fun z => !spanMeets d.drift r z))
    | none => (false, ts)
  | none =>
    if ts.length < Config.maxTracks then
      (decide ((newTrack d frameNo r).state = .confirmed), ts ++ [newTrack d frameNo r])
    else (false, ts)

/-- Classification of the regions in table order, with the tracks they match, make or merge (R107, R111, R113). -/
def classifyRegions (d : DefectTable) (frameNo : Word) : List Region → List Track → List Region × List Track
  | [], ts => ([], ts)
  | r :: rs, ts =>
    match classifyBox d r with
    | .scratch =>
      let m := trackRegion d frameNo r ts
      let rest := classifyRegions d frameNo rs m.2
      ({ r with isOpen := false, cls := some .scratch, confirmed := m.1 } :: rest.1, rest.2)
    | c =>
      let rest := classifyRegions d frameNo rs ts
      ({ r with isOpen := false, cls := some c, confirmed := false } :: rest.1, rest.2)

/-- Unmatched candidates deleted and unmatched confirmed tracks counting a miss (R114). -/
def countMisses (ts : List Track) : List Track :=
  (ts.filter fun t => t.matched || decide (t.state = .confirmed)).map fun t =>
    if t.matched then t else { t with missing := satAdd 255 t.missing 1 }

/-- A confirmed track retires: unmatched, with a missing count of at least F (R114). -/
def retires (d : DefectTable) (t : Track) : Bool :=
  !t.matched && decide (t.state = .confirmed) && decide (d.misses ≤ t.missing)

/-- The frame holds a TEAR region (R107). -/
def hasTear (rs : List Region) : Bool := rs.any fun r => decide (r.cls = some .tear)

/-- A torn frame starts a tear run unless the tear memory names the frame before it with a TEAR region (R108). -/
def startsTearRun (mem : Option TearMemory) (frameNo : Word) : Bool :=
  match mem with
  | some m => !(m.torn && decide (m.frameNo.toNat + 1 = frameNo.toNat))
  | none => true

/-- CONFIRMED tracks of a list (R115). -/
def confirmedCount (ts : List Track) : Nat := (ts.filter fun t => decide (t.state = .confirmed)).length

end Sys2Proof.Machine
end

