-- ==== Sys2Proof/Machine/Grading.lean ====
section
/-! DEFINITION. The grading pipeline's computations: grade sets and their ranges (R135, R136), histograms (R141), fade targets
and smoothing (R143 to R147), and the per-sample transform (R149 to R152). -/
namespace Sys2Proof.Machine

/-- The value of a grade set at an index. -/
def gradeVal (set : GradeSet) (i : Nat) : Int := (set[i]?).getD 0

/-- The fixed set's value at an index (R136). -/
def fixedValue (i : Nat) : Int :=
  if i < 3 then 0
  else if i < 6 then 16384
  else if i < 9 then 0
  else if i < 18 then (if i = 9 ∨ i = 13 ∨ i = 17 then 4096 else 0)
  else if i < 83 then ((i - 18) * 1024 : Nat)
  else if i < 148 then ((i - 83) * 1024 : Nat)
  else if i < 213 then ((i - 148) * 1024 : Nat)
  else match i with
    | 213 => 0
    | 214 => 4095
    | 215 => 0
    | 216 => 3119
    | 217 => 60000
    | 218 => 8192
    | 219 => 49152
    | 220 => 2
    | 221 => 5
    | 222 => 995
    | _ => 0

/-- The fixed grade set (R136). -/
def fixedSet : GradeSet := Vector.ofFn fun i => fixedValue i.val

/-- Range of the grade set's value at an index (R135). -/
def gradeRange (i : Nat) : Int × Int :=
  if i < 6 then (0, 65535)
  else if i < 9 then (0, 1)
  else if i < 18 then (-32768, 32767)
  else if i < 213 then (0, 65536)
  else if i < 215 then (0, 4095)
  else if i < 217 then (0, 3119)
  else if i < 220 then (0, 65535)
  else if i = 220 then (0, 6)
  else (0, 1000)

/-- A table word as table 4 judges it: the matrix coefficients signed, every other value unsigned (R135). -/
def gradeWordValue (i : Nat) (w : Word) : Int :=
  if 9 ≤ i ∧ i < 18 then w.toInt else (w.toNat : Int)

/-- The value held after a write of a word at an index (R135). -/
def gradeClamp (i : Nat) (w : Word) : Int :=
  clampInt (gradeRange i).1 (gradeRange i).2 (gradeWordValue i w)

/-- The grade set in force (R138). -/
def setInForce (g : Grading) : GradeSet :=
  match g.sel with
  | .fixed => fixedSet
  | .programmed => g.prog

/-- The checksum of the set in force (R140). -/
def checkInForce (g : Grading) : BitVec 16 :=
  match g.sel with
  | .fixed => gradeChecksum fixedSet.toList
  | .programmed => g.progCheck

/-- The assessment area of a grade set (R142). -/
def areaOf (set : GradeSet) : Area :=
  { colLo := (gradeVal set 213).toNat, colHi := (gradeVal set 214).toNat,
    lineLo := (gradeVal set 215).toNat, lineHi := (gradeVal set 216).toNat }

/-! ## Histograms -/

/-- A sample counted into its bin (R141). -/
def countSample (h : Vector Nat 64) (s : Sample) : Vector Nat 64 :=
  vecModify h (s.toNat / 1024) (· + 1)

/-- A pixel counted into the three histograms unless its IR sample is dark (R141). -/
def countPixel (irLevel : Nat) (h : Rgb (Vector Nat 64)) (p : Pixel) : Rgb (Vector Nat 64) :=
  if p.ir.toNat < irLevel then h
  else ⟨countSample h.r p.r, countSample h.g p.g, countSample h.b p.b⟩

/-- The pixels of line `y` that lie in the assessment area (R141, R142). -/
def areaPixels (a : Area) (y : Nat) (line : List Pixel) : List Pixel :=
  if a.lineLo ≤ y ∧ y ≤ a.lineHi then (line.take (a.colHi + 1)).drop a.colLo else []

/-- The histograms after a line (R141). -/
def histLine (l : Latch) (y : Nat) (line : List Pixel) (h : Rgb (Vector Nat 64)) : Rgb (Vector Nat 64) :=
  (areaPixels l.area y line).foldl (countPixel l.defect.irLevel) h

/-- N_c, the count of a channel (R141). -/
def histCount (h : Vector Nat 64) : Nat := h.toList.sum

/-- The lowest bin from `b` on whose cumulative count is at least `t`, `acc` being the count below `b` (R143). -/
def lowestBin : List Nat → Nat → Nat → Nat → Nat
  | [], _, _, b => b
  | c :: cs, acc, t, b => if t ≤ acc + c then b else lowestBin cs (acc + c) t (b + 1)

/-- The bin found by a per mille of the counted samples (R143). -/
def pmBin (h : Vector Nat 64) (pm : Nat) : Nat :=
  lowestBin h.toList 0 (ceilDiv (histCount h * pm) 1000) 0

/-- The high point of a channel with samples (R92, R143). -/
def highPoint (h : Vector Nat 64) (highPm : Nat) : Nat := 1024 * pmBin h highPm + 1023

/-- The low point of a channel with samples (R143). -/
def lowPoint (h : Vector Nat 64) (lowPm highPm : Nat) : Nat := 1024 * min (pmBin h lowPm) (pmBin h highPm)

/-! ## Fade -/

/-- Parameters of a grade set that govern a channel's fade (R139). -/
structure FadeParams where
  auto : Bool
  black : Nat
  gain : Nat
  span : Nat
  gmin : Nat
  gmax : Nat
  k : Nat
  lowPm : Nat
  highPm : Nat
  deriving DecidableEq, Repr

/-- Fade parameters of channel `c`, 0 to 2 for R, G and B (R135). -/
def fadeParams (set : GradeSet) (c : Nat) : FadeParams :=
  { auto := decide (gradeVal set (6 + c) ≠ 0)
    black := (gradeVal set c).toNat
    gain := (gradeVal set (3 + c)).toNat
    span := (gradeVal set 217).toNat
    gmin := (gradeVal set 218).toNat
    gmax := (gradeVal set 219).toNat
    k := (gradeVal set 220).toNat
    lowPm := (gradeVal set 221).toNat
    highPm := (gradeVal set 222).toNat }

/-- A gain brought within gmin to max(gmin, gmax) (R146, R147). -/
def boundGain (p : FadeParams) (g : Nat) : Nat := clampNat p.gmin (max p.gmin p.gmax) g

/-- Raw gain over a span, rounded half upward (R144). -/
def rawGain (target span : Nat) : Nat := (target * 16384 + span / 2) / span

/-- Target gain, the clamp to gmax first and to gmin after it (R144). -/
def targetGain (p : FadeParams) (span : Nat) : Nat := max p.gmin (min p.gmax (rawGain p.span span))

/-- The step of a difference, divided by 2^k and rounded to the nearest, halves away from zero (R146). -/
def fadeStep (k : Nat) (d : Int) : Int :=
  let h : Int := if k = 0 then 0 else 2 ^ (k - 1)
  if 0 ≤ d then (d + h) / 2 ^ k else -((-d + h) / 2 ^ k)

/-- The previous value moved toward the target by one step (R146). -/
def fadeMove (k prev target : Nat) : Nat := ((prev : Int) + fadeStep k ((target : Int) - prev)).toNat

/-- One channel's fade state at the close of a treated frame (R146, R147). -/
def fadeChannel (p : FadeParams) (h : Vector Nat 64) (prev : ChannelFade) : ChannelFade :=
  if p.auto then
    let prevGain := boundGain p prev.gain
    if histCount h = 0 then { prev with gain := prevGain }
    else
      let low := lowPoint h p.lowPm p.highPm
      let target := targetGain p (highPoint h p.highPm - low)
      if prev.direct then ⟨low, target, false⟩
      else ⟨fadeMove p.k prev.black low, fadeMove p.k prevGain target, false⟩
  else ⟨p.black, boundGain p p.gain, false⟩

/-- The fade state of the three channels at a close (R148, steps 1 and 2). -/
def fadeClose (set : GradeSet) (h : Rgb (Vector Nat 64)) (prev : Rgb ChannelFade) : Rgb ChannelFade :=
  ⟨fadeChannel (fadeParams set 0) h.r prev.r, fadeChannel (fadeParams set 1) h.g prev.g,
   fadeChannel (fadeParams set 2) h.b prev.b⟩

/-- The applied values that the slot record receives (R148, step 3). -/
def appliedFade (f : Rgb ChannelFade) : Rgb Fade :=
  ⟨⟨f.r.black, f.r.gain⟩, ⟨f.g.black, f.g.gain⟩, ⟨f.b.black, f.b.gain⟩⟩

/-- The largest of the three applied gains (R148, step 4). -/
def largestGain (f : Rgb ChannelFade) : Nat := max f.r.gain (max f.g.gain f.b.gain)

/-- Every direct flag set (R145). -/
def setDirect (f : Rgb ChannelFade) : Rgb ChannelFade :=
  ⟨{ f.r with direct := true }, { f.g with direct := true }, { f.b with direct := true }⟩

/-! ## The per-sample transform -/

/-- Stage 1: fade black and gain (R149). -/
def stageFade (f : Fade) (s : Nat) : Nat :=
  if s ≤ f.black then 0 else min 65535 (((s - f.black) * f.gain + 8192) / 16384)

/-- Stage 2: the row of the colour matrix at index `row` (9, 12 or 15) of the set (R150). -/
def stageMatrix (set : GradeSet) (row : Nat) (v : Rgb Nat) : Nat :=
  (clampInt 0 65535 ((gradeVal set row * v.r + gradeVal set (row + 1) * v.g + gradeVal set (row + 2) * v.b + 2048)
    / 4096)).toNat

/-- Stage 3: the curve whose first knot stands at index `base` (18, 83 or 148) of the set (R151). -/
def stageCurve (set : GradeSet) (base v : Nat) : Int :=
  let i := v / 1024
  let f := v - 1024 * i
  let k0 := gradeVal set (base + i)
  let k1 := gradeVal set (base + i + 1)
  k0 + ((k1 - k0) * f + 512) / 1024

/-- Stage 4: the applied trim (R152). -/
def stageTrim (gain : Nat) (offset : Int) (v : Int) : Nat :=
  (clampInt 0 65535 ((v * gain + 2048) / 4096 + offset)).toNat

/-- The transform of one repaired pixel's R, G and B; IR leaves as stored (R149 to R153). -/
def gradePixel (set : GradeSet) (f : Rgb Fade) (t : Trim) (p : Pixel) : Pixel :=
  let v1 : Rgb Nat := ⟨stageFade f.r p.r.toNat, stageFade f.g p.g.toNat, stageFade f.b p.b.toNat⟩
  { r := BitVec.ofNat 16 (stageTrim t.gain.r t.offset.r (stageCurve set 18 (stageMatrix set 9 v1)))
    g := BitVec.ofNat 16 (stageTrim t.gain.g t.offset.g (stageCurve set 83 (stageMatrix set 12 v1)))
    b := BitVec.ofNat 16 (stageTrim t.gain.b t.offset.b (stageCurve set 148 (stageMatrix set 15 v1)))
    ir := p.ir }

end Sys2Proof.Machine
end

