-- ==== Sys2Proof/Machine/Repair.lean ====
section
/-! DEFINITION. The repair engine's planning (R119 to R125) and application (R126 to R129), and the formation of a treated
frame's output lines: repair, steadying, grading (R50, R51, R153). -/
namespace Sys2Proof.Machine

/-! ## Planning -/

/-- A neighbour M of frame N is usable; `later` is the later frame of the two (R121). -/
def usable (m n later : Slot) : Bool :=
  decide (m.tag = n.tag) &&
    (decide (m.frameNo.toNat + 1 = n.frameNo.toNat) || decide (n.frameNo.toNat + 1 = m.frameNo.toNat)) &&
    !m.regHeld && !n.regHeld && decide (m.repStep = n.repStep) && !later.spliceBefore

/-- Two line or column ranges intersect, bounds inclusive (R122). -/
def rangesMeet (a0 a1 b0 b1 : Int) : Bool := decide (a0 ≤ b1) && decide (b0 ≤ a1)

/-- M is clean for a region of N: the mapped box lies in M's stored frame and overlaps no region of M (R122). -/
def cleanFor (h : ReelHeader) (m n : Slot) (r : Region) : Bool :=
  let sx := m.dx - n.dx
  let sy := m.dy - n.dy
  decide (0 ≤ r.c0 + sx) && decide (r.c1 + sx ≤ (h.pixels : Int) - 1) && decide (0 ≤ r.l0 + sy) &&
    decide (r.l1 + sy ≤ (h.lines : Int) - 1) &&
    m.regions.all fun q =>
      !(rangesMeet (r.c0 + sx) (r.c1 + sx) q.c0 q.c1 && rangesMeet (r.l0 + sy) (r.l1 + sy) q.l0 q.l1)

/-- INTERP where the region is narrow enough, NONE_WIDE otherwise (R123). -/
def interpOrWide (interpMax : Nat) (r : Region) : Method := if regionWidth r ≤ interpMax then .interp else .noneWide

/-- A neighbour that is present, usable and clean for the region (R121, R122). -/
def canSubst (h : ReelHeader) (n : Slot) (m : Option Slot) (predecessor : Bool) (r : Region) : Bool :=
  match m with
  | some m => usable m n (if predecessor then n else m) && cleanFor h m n r
  | none => false

/-- The method of a region before the budget (R123). -/
def chooseMethod (h : ReelHeader) (n : Slot) (pred succ : Option Slot) (r : Region) : Method :=
  match r.cls with
  | some .tear => .noneTear
  | some .scratch =>
    if r.confirmed then interpOrWide n.latch.defect.interpMax r
    else if canSubst h n pred true r then .substPrev
    else if canSubst h n succ false r then .substNext
    else interpOrWide n.latch.defect.interpMax r
  | _ =>
    if canSubst h n pred true r then .substPrev
    else if canSubst h n succ false r then .substNext
    else interpOrWide n.latch.defect.interpMax r

/-- A repairing method (R119). -/
def repairing : Method → Bool
  | .substPrev => true
  | .substNext => true
  | .interp => true
  | .noneTear => false
  | .noneWide => false
  | .noneBudget => false

/-- The methods after the budget, with REPAIR_PARTIAL; `cut` is the cut mark (R124). -/
def chargeBudget : List (Method × Nat) → Nat → Bool → List Method × Bool
  | [], _, cut => ([], cut)
  | (m, area) :: rest, left, cut =>
    if repairing m then
      if cut then
        let t := chargeBudget rest left true
        (.noneBudget :: t.1, t.2)
      else if area ≤ left then
        let t := chargeBudget rest (left - area) false
        (m :: t.1, t.2)
      else
        let t := chargeBudget rest left true
        (.noneBudget :: t.1, t.2)
    else
      let t := chargeBudget rest left cut
      (m :: t.1, t.2)

/-- The plan of the treated frame in slot `k` (R120, R125). -/
def makePlan (h : ReelHeader) (k : Fin 4) (n : Slot) (pred succ : Option (Fin 4 × Slot)) : Plan :=
  let chosen := n.regions.map fun r => (chooseMethod h n (pred.map (·.2)) (succ.map (·.2)) r, regionArea r)
  let charged := chargeBudget chosen n.latch.defect.pixelBudget false
  { slot := k, pred := pred.map (·.1), succ := succ.map (·.1), methods := charged.1, cut := charged.2,
    repaired := (charged.1.filter repairing).length,
    unrepaired := (charged.1.filter fun m => !repairing m).length }

/-! ## Application -/

/-- A pixel that takes another one's R, G and B and keeps its own IR (R126). -/
def takeRgb (p q : Pixel) : Pixel := { p with r := q.r, g := q.g, b := q.b }

/-- The pixel of a line at a column, if the column lies inside it. -/
def pixelAt (row : Array Pixel) (x : Int) : Option Pixel := if 0 ≤ x then row[x.toNat]? else none

/-- A pixel of the fill value in all four channels (R50). -/
def fillPixel (fill : Nat) : Pixel :=
  ⟨BitVec.ofNat 16 fill, BitVec.ofNat 16 fill, BitVec.ofNat 16 fill, BitVec.ofNat 16 fill⟩

/-- Substitution of a region's pixels on source line `y` from the neighbour M (R126). -/
def substLine (m n : Slot) (r : Region) (y : Nat) (line : Array Pixel) : Array Pixel :=
  let sx := m.dx - n.dx
  let src := ((m.lines[((y : Int) + (m.dy - n.dy)).toNat]?).getD []).toArray
  line.mapIdx fun x p =>
    if r.c0 ≤ x ∧ x ≤ r.c1 then takeRgb p ((pixelAt src ((x : Int) + sx)).getD p) else p

/-- The flanks of an interpolated line (R128). -/
def flanks (fill : Nat) (r : Region) (line : Array Pixel) : Pixel × Pixel :=
  let left := pixelAt line ((r.c0 : Int) - 1)
  let right := pixelAt line ((r.c1 : Int) + 1)
  match left, right with
  | some a, some b => (a, b)
  | some a, none => (a, a)
  | none, some b => (b, b)
  | none, none => (fillPixel fill, fillPixel fill)

/-- One interpolated sample, `t` columns from the left flank of `n` (R127). -/
def interpSample (a b : Sample) (n t : Nat) : Sample :=
  BitVec.ofNat 16 ((a.toNat * (n - t) + b.toNat * t + n / 2) / n)

/-- Interpolation of a region's pixels on one source line (R127, R128). -/
def interpLine (fill : Nat) (r : Region) (line : Array Pixel) : Array Pixel :=
  let f := flanks fill r line
  let n := regionWidth r + 1
  line.mapIdx fun x p =>
    if r.c0 ≤ x ∧ x ≤ r.c1 then
      let t := x - r.c0 + 1
      { p with r := interpSample f.1.r f.2.r n t, g := interpSample f.1.g f.2.g n t,
               b := interpSample f.1.b f.2.b n t }
    else p

/-- One plan entry applied to source line `y` (R126 to R129). -/
def applyEntry (n : Slot) (pred succ : Option Slot) (y : Nat) (line : Array Pixel) (e : Region × Method) :
    Array Pixel :=
  if e.1.l0 ≤ y ∧ y ≤ e.1.l1 then
    match e.2, pred, succ with
    | .substPrev, some m, _ => substLine m n e.1 y line
    | .substNext, _, some m => substLine m n e.1 y line
    | .interp, _, _ => interpLine n.latch.reg.fill e.1 line
    | _, _, _ => line
  else line

/-- Source line `y` of a treated frame as the repair step gives it: the entries applied in table order (R129). -/
def repairedLine (n : Slot) (pred succ : Option Slot) (methods : List Method) (y : Nat) : Array Pixel :=
  (n.regions.zip methods).foldl (applyEntry n pred succ y) ((n.lines[y]?).getD []).toArray

/-- Output line `y` of a treated frame: repaired, steadied, graded; fill where the source lies outside (R50, R51, R153). -/
def outputLine (h : ReelHeader) (n : Slot) (pred succ : Option Slot) (methods : List Method) (set : GradeSet)
    (trim : Trim) (y : Nat) : List Pixel :=
  let fill := fillPixel n.latch.reg.fill
  let sy := (y : Int) + n.dy
  if 0 ≤ sy ∧ sy < h.lines then
    let line := repairedLine n pred succ methods sy.toNat
    (List.range h.pixels).map fun x =>
      let sx := (x : Int) + n.dx
      if 0 ≤ sx ∧ sx < h.pixels then
        match pixelAt line sx with
        | some p => gradePixel set n.fade trim p
        | none => fill
      else fill
  else List.replicate h.pixels fill

end Sys2Proof.Machine
end

