-- ==== Sys2Proof/Machine/Tables.lean ====
section
/-! DEFINITION. Tables 1 to 7 as words: what READ_TABLE returns (R190, R200), and what WRITE_TABLE holds after clamping and
whether it clamped (R58, R84, R98, R135, R158, R165, R189). -/
namespace Sys2Proof.Machine

/-- Length of a table in words; 0 for an id that names no table (R189). -/
def tableLength (id : Nat) : Nat :=
  match id with
  | 1 => 13
  | 2 => 6
  | 3 => 10
  | 4 => 223
  | 5 => 48
  | 6 => 128
  | 7 => 32
  | _ => 0

/-- Ranges of table 1 in word order (R58). -/
def regRanges : List (Nat × Nat) :=
  [ (0, 4095), (0, 4095), (0, 65535), (1, 4096), (1, 3120), (1, 3120), (0, 64), (0, 64), (0, 128), (256, 65535),
    (1, 255), (1, 1023), (0, 65535) ]

/-- Ranges of table 2 in word order (R84). -/
def transportRanges : List (Nat × Nat) := [ (1, 255), (1, 255), (1, 255), (1, 1023), (0, 65535), (0, 1000) ]

/-- Ranges of table 3 in word order (R98). -/
def defectRanges : List (Nat × Nat) :=
  [ (0, 65535), (1, 4096), (1, 3120), (1, 4096), (1, 4096), (0, 255), (1, 255), (1, 255), (1, 4096), (0, 16777215) ]

/-- A word clamped to the range at an index of a table's ranges. -/
def rangeClamp (ranges : List (Nat × Nat)) (i : Nat) (w : Word) : Nat :=
  let r := (ranges[i]?).getD (0, 0)
  clampNat r.1 r.2 w.toNat

/-- Table 1 as numbers in word order (R200). -/
def regList (t : RegTable) : List Nat :=
  [ t.bandLo, t.bandHi, t.holeLevel, t.holeFill, t.holeMin, t.holeMax, t.minConf, t.upConf, t.maxShift,
    t.unshrunkPitch, t.acqMin, t.acqTimeout, t.fill ]

/-- Table 1 with the value at a word replaced. -/
def regSet (t : RegTable) (i v : Nat) : RegTable :=
  match i with
  | 0 => { t with bandLo := v }
  | 1 => { t with bandHi := v }
  | 2 => { t with holeLevel := v }
  | 3 => { t with holeFill := v }
  | 4 => { t with holeMin := v }
  | 5 => { t with holeMax := v }
  | 6 => { t with minConf := v }
  | 7 => { t with upConf := v }
  | 8 => { t with maxShift := v }
  | 9 => { t with unshrunkPitch := v }
  | 10 => { t with acqMin := v }
  | 11 => { t with acqTimeout := v }
  | 12 => { t with fill := v }
  | _ => t

/-- Table 2 as numbers in word order (R200). -/
def transportList (t : TransportTable) : List Nat := [ t.d0, t.d1, t.d2, t.u, t.lowMark, t.clipPm ]

/-- Table 2 with the value at a word replaced. -/
def transportSet (t : TransportTable) (i v : Nat) : TransportTable :=
  match i with
  | 0 => { t with d0 := v }
  | 1 => { t with d1 := v }
  | 2 => { t with d2 := v }
  | 3 => { t with u := v }
  | 4 => { t with lowMark := v }
  | 5 => { t with clipPm := v }
  | _ => t

/-- Table 3 as numbers in word order (R200). -/
def defectList (t : DefectTable) : List Nat :=
  [ t.irLevel, t.minRun, t.scratchMinHeight, t.scratchMaxWidth, t.tearMinWidth, t.drift, t.sightings, t.misses,
    t.interpMax, t.pixelBudget ]

/-- Table 3 with the value at a word replaced. -/
def defectSet (t : DefectTable) (i v : Nat) : DefectTable :=
  match i with
  | 0 => { t with irLevel := v }
  | 1 => { t with minRun := v }
  | 2 => { t with scratchMinHeight := v }
  | 3 => { t with scratchMaxWidth := v }
  | 4 => { t with tearMinWidth := v }
  | 5 => { t with drift := v }
  | 6 => { t with sightings := v }
  | 7 => { t with misses := v }
  | 8 => { t with interpMax := v }
  | 9 => { t with pixelBudget := v }
  | _ => t

/-! ## Table 5, the condition policy -/

/-- Comparison of a code; above 2 taken as DIFFERS (R158, R200). -/
def comparisonOf (c : Nat) : Comparison :=
  match c with
  | 0 => .atLeast
  | 1 => .below
  | _ => .differs

/-- Code of a comparison. -/
def comparisonCode : Comparison → Nat
  | .atLeast => 0
  | .below => 1
  | .differs => 2

/-- Action of a two-bit code (R158). -/
def actionOf (c : Nat) : PolicyAction :=
  match c with
  | 0 => .none
  | 1 => .worsen
  | 2 => .hold
  | _ => .rescan

/-- Code of an action. -/
def actionCode : PolicyAction → Nat
  | .none => 0
  | .worsen => 1
  | .hold => 2
  | .rescan => 3

/-- An entry after a write of its rule word (R158, R200). -/
def policyRule (e : PolicyEntry) (w : Word) : PolicyEntry :=
  { e with
    field := min 21 (bitsOf w 31 24)
    cmp := comparisonOf (bitsOf w 23 20)
    whenFalse := bitOf w 17
    andPrevious := bitOf w 16
    action := actionOf (bitsOf w 9 8)
    target := clampNat 1 4 (bitsOf w 3 0) }

/-- A content of the rule word had to be clamped (R158; log 13: a target class of 0 counts). -/
def policyRuleClamped (w : Word) : Bool :=
  decide (21 < bitsOf w 31 24) || decide (2 < bitsOf w 23 20) || decide (bitsOf w 3 0 = 0) ||
    decide (4 < bitsOf w 3 0)

/-- An entry after a write of its operand word (R158). -/
def policyOperand (e : PolicyEntry) (w : Word) : PolicyEntry :=
  { e with operand := BitVec.ofNat 16 (min 65535 w.toNat) }

/-- An entry after a write of table 5's word `i`, an even word holding the rule and an odd word the operand (R158). -/
def policyWrite (i : Nat) (w : Word) (e : PolicyEntry) : PolicyEntry :=
  if i % 2 = 0 then policyRule e w else policyOperand e w

/-- The two words of an entry (R200). -/
def policyWords (e : PolicyEntry) : List Word :=
  [ fld e.field 24 ||| fld (comparisonCode e.cmp) 20 ||| fld (flag e.whenFalse) 17 ||| fld (flag e.andPrevious) 16 |||
      fld (actionCode e.action) 8 ||| fld e.target 0,
    natWord e.operand.toNat ]

/-! ## Table 6, the bays -/

/-- A bay after a write of its admission word (R165, R200). -/
def bayAdmission (b : Bay) (w : Word) : Bay :=
  { b with
    enabled := bitOf w 31
    conservation := bitOf w 30
    refusalHold := bitOf w 29
    polyester := bitOf w 18
    acetate := bitOf w 17
    nitrate := bitOf w 16
    classes := BitVec.ofNat 5 (bitsOf w 4 0) }

/-- A bay after a write of its counts word (R165, R200). -/
def bayCounts (b : Bay) (w : Word) : Bay :=
  { b with capacity := min 4095 (bitsOf w 31 16), occupied := min 4095 (bitsOf w 15 0) }

/-- A bay after a write of table 6's word `i`, an even word holding the admissions and an odd word the counts (R165). -/
def bayWrite (i : Nat) (w : Word) (b : Bay) : Bay :=
  if i % 2 = 0 then bayAdmission b w else bayCounts b w

/-- A count of the counts word had to be clamped (R165). -/
def bayCountsClamped (w : Word) : Bool := decide (4095 < bitsOf w 31 16) || decide (4095 < bitsOf w 15 0)

/-- The two words of a bay (R200). -/
def bayWords (b : Bay) : List Word :=
  [ fld (flag b.enabled) 31 ||| fld (flag b.conservation) 30 ||| fld (flag b.refusalHold) 29 |||
      fld (flag b.polyester) 18 ||| fld (flag b.acetate) 17 ||| fld (flag b.nitrate) 16 ||| fld b.classes.toNat 0,
    fld b.capacity 16 ||| fld b.occupied 0 ]

/-! ## Table 7, the placement list -/

/-- The two words of a placement (R179, R200). -/
def placementWords (p : Placement) : List Word :=
  [ fld p.id 24 ||| fld p.bay.val 16 ||| fld (classCode p.cls) 12 ||| fld (baseCode p.base) 8 |||
      fld (flag p.hold) 4 ||| fld p.attempts 0,
    p.reelId ]

/-- Table 7: the placements in list order, every place beyond them two words of 0 (R179). -/
def placementTable (ps : List Placement) : List Word :=
  (ps.flatMap placementWords ++ List.replicate 32 0).take 32

/-! ## Reading and writing -/

/-- A table's words as it holds them after clamping (R190, R200). -/
def tableWords (s : State) (id : Nat) : List Word :=
  match id with
  | 1 => (regList s.reg.table).map natWord
  | 2 => (transportList s.xport.table).map natWord
  | 3 => (defectList s.defect.table).map natWord
  | 4 => s.grade.prog.toList.map signedWord
  | 5 => s.shelf.policy.toList.flatMap policyWords
  | 6 => s.shelf.bays.toList.flatMap bayWords
  | 7 => placementTable s.shelf.placements
  | _ => []

/-- The words of a table from a start index (R190). -/
def readWords (s : State) (id start count : Nat) : List Word := ((tableWords s id).drop start).take count

/-- One word written to a table, clamped as the table's rule gives (R189). The stored checksum of table 4 is taken once,
after the whole write. -/
def writeWord (id i : Nat) (w : Word) (s : State) : State :=
  match id with
  | 1 => { s with reg := { s.reg with table := regSet s.reg.table i (rangeClamp regRanges i w) } }
  | 2 => { s with xport := { s.xport with table := transportSet s.xport.table i (rangeClamp transportRanges i w) } }
  | 3 => { s with defect := { s.defect with table := defectSet s.defect.table i (rangeClamp defectRanges i w) } }
  | 4 => { s with grade := { s.grade with prog := vecModify s.grade.prog i fun _ => gradeClamp i w } }
  | 5 => { s with shelf := { s.shelf with policy := vecModify s.shelf.policy (i / 2) (policyWrite i w) } }
  | 6 => { s with shelf := { s.shelf with bays := vecModify s.shelf.bays (i / 2) (bayWrite i w) } }
  | _ => s

/-- The word had to be clamped (R189, R200). -/
def wordClamped (id i : Nat) (w : Word) : Bool :=
  match id with
  | 1 => decide (rangeClamp regRanges i w ≠ w.toNat)
  | 2 => decide (rangeClamp transportRanges i w ≠ w.toNat)
  | 3 => decide (rangeClamp defectRanges i w ≠ w.toNat)
  | 4 => decide (gradeClamp i w ≠ gradeWordValue i w)
  | 5 => if i % 2 = 0 then policyRuleClamped w else decide (65535 < w.toNat)
  | 6 => if i % 2 = 0 then false else bayCountsClamped w
  | _ => false

/-- Values written to consecutive words (R189). -/
def writeWords (id : Nat) : Nat → List Word → State → State
  | _, [], s => s
  | i, w :: ws, s => writeWords id (i + 1) ws (writeWord id i w s)

/-- Count of the values that had to be clamped (R189). -/
def clampedCount (id : Nat) : Nat → List Word → Nat
  | _, [] => 0
  | i, w :: ws => flag (wordClamped id i w) + clampedCount id (i + 1) ws

/-- The stored checksum brought up to date with the programmed set (R140). -/
def refreshChecksum (s : State) : State :=
  { s with grade := { s.grade with progCheck := gradeChecksum s.grade.prog.toList } }

/-- The effect of an accepted WRITE_TABLE (R189, R140). -/
def writeTableWords (id start : Nat) (ws : List Word) (s : State) : State :=
  let t := writeWords id start ws s
  if id = 4 then refreshChecksum t else t

end Sys2Proof.Machine
end

