-- ==== Sys2Proof/Machine/Shelving.lean ====
section
/-! DEFINITION. The shelving unit's computations: the policy evaluation (R159 to R164), bays (R166 to R168), the disposition
(R169), placement ids (R171), confirmation and refusal (R174 to R176). -/
namespace Sys2Proof.Machine

/-! ## Policy -/

/-- Held per mille (R159, code 21). -/
def heldPerMille (c : Counters) : Nat := if c.emitted = 0 then 0 else c.held * 1000 / c.emitted

/-- Base type as the policy reads it; UNKNOWN reads 0 (R159, code 19). -/
def baseField : BaseType → Nat
  | .nitrate => 0
  | .acetate => 1
  | .polyester => 2
  | .unknown => 0

/-- The value a field code names; `none` is UNKNOWN (R159). -/
def fieldValue (r : ReelRecord) (code : Nat) : Option Int :=
  match code with
  | 1 => some r.counters.opened
  | 2 => some r.counters.emitted
  | 3 => some r.counters.dropped
  | 4 => some r.counters.discarded
  | 5 => some r.counters.held
  | 6 => some r.counters.creep
  | 7 => some r.counters.splices
  | 8 => some r.counters.tearRuns
  | 9 => some r.counters.scratches
  | 10 => some r.counters.repaired
  | 11 => some r.counters.unrepaired
  | 12 => some r.counters.lost
  | 13 => some r.counters.partials
  | 14 => r.reelShrinkage
  | 15 => r.peakShrinkage
  | 16 => some r.maxGain
  | 17 => some (flag (decide (r.acqOutcome = .failed)))
  | 18 => some r.header.acid
  | 19 => some (baseField r.header.base)
  | 20 => some r.counters.trims
  | _ => some (heldPerMille r.counters)

/-- The value brought to the range of a comparison (R160). -/
def rangedValue : Comparison → Int → Int
  | .atLeast, v => clampInt 0 65535 v
  | .differs, v => clampInt 0 65535 v
  | .below, v => clampInt (-32768) 32767 v

/-- A comparison of a ranged value with the operand (R161). -/
def compareValue (c : Comparison) (v : Int) (operand : BitVec 16) : Bool :=
  match c with
  | .atLeast => decide ((operand.toNat : Int) + 1 ≤ v)
  | .below => decide (v < operand.toInt)
  | .differs => decide (v ≠ operand.toNat)

/-- The comparison of an entry against a record; false where the value is UNKNOWN (R160, R161). -/
def entryCompare (e : PolicyEntry) (r : ReelRecord) : Bool :=
  match fieldValue r e.field with
  | some v => compareValue e.cmp (rangedValue e.cmp v) e.operand
  | none => false

/-- R of an entry, `prev` being the R of the entry before it (R162). -/
def entryResult (e : PolicyEntry) (r : ReelRecord) (prev : Bool) : Bool :=
  entryCompare e r && (!e.andPrevious || prev)

/-- The worse of two classes (R163). -/
def worse (a b : CondClass) : CondClass := if classCode a < classCode b then b else a

/-- Results of an evaluation (R163). -/
structure PolicyResult where
  cls : CondClass
  hold : Bool
  rescan : Bool
  deriving DecidableEq, Repr

/-- The effect of a firing action (R163). -/
def fireAction (e : PolicyEntry) (p : PolicyResult) : PolicyResult :=
  match e.action with
  | .none => p
  | .worsen => { p with cls := worse p.cls (targetClass e.target) }
  | .hold => { p with hold := true }
  | .rescan => { p with rescan := true }

/-- The action of an entry with result `res` fires when `res` equals its sense (R162). -/
def judgeEntry (e : PolicyEntry) (res : Bool) (p : PolicyResult) : PolicyResult :=
  if res = !e.whenFalse then fireAction e p else p

/-- The evaluation of the entries in order, ended by END (R164). -/
def evalPolicy (r : ReelRecord) : List PolicyEntry → Bool → PolicyResult → PolicyResult
  | [], _, p => p
  | e :: es, prev, p =>
    if e.field = 0 then p else evalPolicy r es (entryResult e r prev) (judgeEntry e (entryResult e r prev) p)

/-- The policy's judgement of a record (R163, R164). -/
def policyOf (s : Shelving) (r : ReelRecord) : PolicyResult := evalPolicy r s.policy.toList false ⟨.classA, false, false⟩

/-! ## Bays -/

/-- Placement list entries that name a bay (R166). -/
def placedIn (ps : List Placement) (b : Fin 64) : Nat := (ps.filter fun p => decide (p.bay = b)).length

/-- The free count of a bay, signed (R166). -/
def freeCount (s : Shelving) (b : Fin 64) : Int :=
  (s.bays.get b).capacity - (s.bays.get b).occupied - placedIn s.placements b

/-- The bay admits a base type; UNKNOWN needs NITRATE (R167). -/
def admitsBase (b : Bay) : BaseType → Bool
  | .nitrate => b.nitrate
  | .acetate => b.acetate
  | .polyester => b.polyester
  | .unknown => b.nitrate

/-- The bay admits a class (R167). -/
def admitsClass (b : Bay) (c : CondClass) : Bool :=
  match c with
  | .none => false
  | .classA => b.classes.getLsbD 0
  | .classB => b.classes.getLsbD 1
  | .classC => b.classes.getLsbD 2
  | .classD => b.classes.getLsbD 3
  | .classE => b.classes.getLsbD 4

/-- The bay is eligible for a reel of a base, class and HOLD flag (R167). -/
def eligible (s : Shelving) (base : BaseType) (c : CondClass) (hold : Bool) (b : Fin 64) : Bool :=
  (s.bays.get b).enabled && !(s.bays.get b).refusalHold && admitsBase (s.bays.get b) base &&
    admitsClass (s.bays.get b) c && decide ((s.bays.get b).conservation = hold) && decide (1 ≤ freeCount s b)

/-- The better of the bay chosen so far and a later one: the larger free count, the earlier on a tie (R168). -/
def betterBay (s : Shelving) (best : Option (Fin 64)) (b : Fin 64) : Option (Fin 64) :=
  match best with
  | none => some b
  | some a => if freeCount s a < freeCount s b then some b else some a

/-- The bay choice: the eligible bay with the largest free count, the lowest-numbered among equals (R168). -/
def chooseBay (s : Shelving) (base : BaseType) (c : CondClass) (hold : Bool) : Option (Fin 64) :=
  ((List.finRange 64).filter (eligible s base c hold)).foldl (betterBay s) none

/-! ## Placements -/

/-- The id after an id, wrapping from 255 to 1 (R171). -/
def nextIdAfter (i : Nat) : Nat := if 255 ≤ i then 1 else i + 1

/-- The first id from `i` on, wrapping, that no entry holds; `fuel` bounds the search (R171). -/
def searchId (ps : List Placement) : Nat → Nat → Nat
  | 0, i => i
  | fuel + 1, i => if ps.any (fun p => decide (p.id = i)) then searchId ps fuel (nextIdAfter i) else i

/-- The placement id an append takes (R171). -/
def takeId (s : Shelving) : Nat := searchId s.placements 17 s.nextId

/-- The shelving unit after an append to the placement list (R170, R171). -/
def appendPlacement (s : Shelving) (r : ReelRecord) (p : PolicyResult) (b : Fin 64) : Shelving :=
  { s with
    placements := s.placements ++ [{ id := takeId s, reelId := r.header.reelId, bay := b, cls := p.cls,
                                     base := r.header.base, hold := p.hold, attempts := 1 }]
    nextId := nextIdAfter (takeId s) }

/-- A record with its disposition written, bay and placement id 0 unless PLACED (R29, R169). -/
def writeDisposition (r : ReelRecord) (p : PolicyResult) (o : ReelOutcome) (why : Reason) (bay id : Nat) :
    ReelRecord :=
  { r with finalClass := p.cls, hold := p.hold, rescan := p.rescan, outcome := o, reason := why, bay := bay,
           placementId := id }

/-- The disposition of a record: the record with its results, and the shelving unit (R169). -/
def dispose (s : Shelving) (r : ReelRecord) : ReelRecord × Shelving :=
  let p := policyOf s r
  if p.rescan then (writeDisposition r p .rescan .none 0 0, s)
  else if s.placements.any (fun q => decide (q.reelId = r.header.reelId)) then
    (writeDisposition r p .unplaced .duplicate 0 0, s)
  else if Config.maxPlacements ≤ s.placements.length then (writeDisposition r p .unplaced .listFull 0 0, s)
  else
    match chooseBay s r.header.base p.cls p.hold with
    | none => (writeDisposition r p .unplaced .noBay 0 0, s)
    | some b => (writeDisposition r p .placed .none b.val (takeId s), appendPlacement s r p b)

/-- The entry that holds a placement id (R174). -/
def findPlacement (s : Shelving) (id : Nat) : Option Placement := s.placements.find? fun p => decide (p.id = id)

/-- The list without the entry that holds an id (R170). -/
def removePlacement (s : Shelving) (id : Nat) : Shelving :=
  { s with placements := s.placements.eraseP fun p => decide (p.id = id) }

/-- A confirmed placement: the entry removed and its bay's occupied count raised (R174). -/
def confirmPlacement (s : Shelving) (p : Placement) : Shelving :=
  let t := removePlacement s p.id
  { t with bays := vecModify t.bays p.bay.val fun b => { b with occupied := satAdd 4095 b.occupied 1 } }

/-- The refusal-hold of a bay set (R175). -/
def holdBay (s : Shelving) (b : Fin 64) : Shelving :=
  { s with bays := vecModify s.bays b.val fun x => { x with refusalHold := true } }

/-- An entry moved to a new bay with attempts 2, in its place in the list (R176). -/
def movePlacement (s : Shelving) (id : Nat) (b : Fin 64) : Shelving :=
  { s with placements := s.placements.map fun p => if p.id = id then { p with bay := b, attempts := 2 } else p }

/-- What a refusal brings about: the shelving unit, the new bay if re-planned, and the reason (R175, R176). -/
def refusePlacement (s : Shelving) (p : Placement) : Shelving × Option (Fin 64) × Reason :=
  let t := holdBay s p.bay
  if 2 ≤ p.attempts then (removePlacement t p.id, none, .refusedTwice)
  else
    match chooseBay t p.base p.cls p.hold with
    | some b => (movePlacement t p.id b, some b, .none)
    | none => (removePlacement t p.id, none, .noBay)

end Sys2Proof.Machine
end

