-- ==== Sys2Proof/Machine/Transport.lean ====
section
/-! DEFINITION. Transport control's decisions: speed (R85 to R89), exposure (R91 to R94), load hold (R95). -/
namespace Sys2Proof.Machine

/-- The class made no faster than the ceiling (R89). -/
def atCeiling (x : Transport) (c : SpeedClass) : Transport := { x with cls := slower c x.ceiling }

/-- The D value of a class (R88). -/
def stepDownRun (t : TransportTable) : SpeedClass → Nat
  | .s0 => t.d0
  | .s1 => t.d1
  | _ => t.d2

/-- A held frame counted: the held run, and a step down when it reaches the class's D value (R88). -/
def countHeld (x : Transport) : Transport :=
  let n := satAdd 65535 x.heldRun 1
  if x.cls ≠ .s3 ∧ stepDownRun x.table x.cls ≤ n then
    atCeiling { x with heldRun := 0, goodRun := 0 } (stepDown x.cls)
  else { x with heldRun := n, goodRun := 0 }

/-- A good frame counted: the good run, and a step up when it reaches U and the ceiling allows it (R88). -/
def countGood (x : Transport) : Transport :=
  let n := satAdd 65535 x.goodRun 1
  if x.cls ≠ .s0 ∧ x.table.u ≤ n ∧ rank x.ceiling ≤ rank (stepUp x.cls) then
    atCeiling { x with heldRun := 0, goodRun := 0 } (stepUp x.cls)
  else { x with heldRun := 0, goodRun := n }

/-- The speed decision at a frame's close: tear override, acquisition pin, run counting (R87, R88). -/
def speedClose (tear acquiring held : Bool) (conf upConf : Nat) (x : Transport) : Transport :=
  if tear then atCeiling { x with heldRun := 0, goodRun := 0 } .s3
  else if acquiring then atCeiling { x with heldRun := 0, goodRun := 0 } .s2
  else if held then countHeld x
  else if upConf ≤ conf then countGood x
  else { x with heldRun := 0, goodRun := 0 }

/-- Exposure decisions (R92, R93). -/
inductive Decision where
  | down | up | hold | notTaken
  deriving DecidableEq, Repr

/-- A channel is clipped (R92). -/
def channelClipped (clipPm : Nat) (h : Vector Nat 64) : Bool :=
  decide (1 ≤ histCount h) && decide (histCount h * clipPm < h[63] * 1000)

/-- A channel's high point lies below low_mark, or it has no high point (R92). -/
def channelLow (lowMark highPm : Nat) (h : Vector Nat 64) : Bool :=
  decide (histCount h = 0) || decide (highPoint h highPm < lowMark)

/-- The decision of a frame whose reported step matches (R92). -/
def exposureDecision (t : TransportTable) (highPm : Nat) (h : Rgb (Vector Nat 64)) : Decision :=
  if channelClipped t.clipPm h.r || channelClipped t.clipPm h.g || channelClipped t.clipPm h.b then .down
  else if (decide (1 ≤ histCount h.r) || decide (1 ≤ histCount h.g) || decide (1 ≤ histCount h.b)) &&
      (channelLow t.lowMark highPm h.r && channelLow t.lowMark highPm h.g && channelLow t.lowMark highPm h.b) then .up
  else .hold

/-- The commanded step after a decision (R92). -/
def applyDecision (step : Nat) : Decision → Nat
  | .down => step - 1
  | .up => min 31 (step + 1)
  | .hold => step
  | .notTaken => step

/-- The exposure decision of a close, before any adoption (R92, R93). -/
def exposureClose (reported highPm : Nat) (h : Rgb (Vector Nat 64)) (x : Transport) : Transport :=
  if reported = x.cmdStep then
    { x with mismatch := 0, stale := false, cmdStep := applyDecision x.cmdStep (exposureDecision x.table highPm h) }
  else { x with mismatch := x.mismatch + 1 }

/-- The head's step adopted when the mismatch counter has reached 4 (R93). -/
def adoptStep (reported : Nat) (x : Transport) : Transport :=
  if Config.adoptAfter ≤ x.mismatch then { x with cmdStep := reported, stale := true, mismatch := 0 } else x

/-- EXPOSURE_CHANGED of a closing frame (R94). -/
def exposureChangedFrom (last : Option Nat) (reported : Nat) : Bool :=
  match last with
  | some r => decide (r ≠ reported)
  | none => false

/-- Transport control at the opening of a record (R86, R91). -/
def transportOpen (step : Nat) (x : Transport) : Transport :=
  { atCeiling { x with heldRun := 0, goodRun := 0 } .s2 with cmdStep := step, mismatch := 0, lastReported := none }

/-- Transport control when the ACTIVE record leaves ACTIVE and no record opens (R86). -/
def transportIdle (x : Transport) : Transport := { x with cls := x.ceiling }

/-- Transport control after the RESET verb, before LOAD_HOLD is recomputed (R97). -/
def transportReset (x : Transport) : Transport :=
  { x with ceiling := .s0, cls := .s0, heldRun := 0, goodRun := 0, mismatch := 0, stale := false,
           lastReported := none, loadHold := x.hyst }

/-- SET_CEILING on transport control (R85). -/
def transportCeiling (c : SpeedClass) (active : Bool) (x : Transport) : Transport :=
  { x with ceiling := c, cls := if active then slower x.cls c else c }

/-- The load-hold hysteresis flag after a change of the placement count (R95). -/
def hystAfter (count : Nat) (f : Bool) : Bool :=
  if Config.holdOn ≤ count then true else if count ≤ Config.holdOff then false else f

end Sys2Proof.Machine
end

