-- ==== Sys2Proof/Machine/Wire.lean ====
section
/-! DEFINITION. The layouts a partner sees: outgoing cells (R15, R17, R18, R196 to R198) and service messages (R199). In every
word the part sends, bits not named are 0. -/
namespace Sys2Proof.Machine

/-- A cell closed with its link check (R2). -/
def sealCell (ws : List Word) : WireCell := ⟨ws, linkCheck ws⟩

/-- The directive cell of transport control's directive (R15, R196). -/
def directiveCellOf (x : Transport) : WireCell :=
  sealCell [fld 8 28 ||| fld (rank x.cls) 26 ||| fld x.cmdStep 16 ||| fld (flag x.loadHold) 8]

/-- Words 2 and 3 of a reel header (R197). -/
def headerTail (lane : Nat) (h : ReelHeader) : List Word :=
  [ fld (baseCode h.base) 30 ||| fld lane 24 ||| fld h.acid 16 ||| fld h.holes 8 ||| fld h.step 0,
    fld h.lines 16 ||| fld h.pixels 0 ]

/-- The emitted part of an outgoing ingest cell (R18). -/
inductive Emitted where
  | idle
  | reelOpen (header : ReelHeader)
  | frameOpen (status : FrameStatus)
  | line (pixels : List Pixel)
  | frameClose (summary : RepairSummary)
  | splice
  | reelClose
  deriving DecidableEq, Repr

/-- Kind code of an emitted part (R196). -/
def emittedKind : Emitted → Nat
  | .idle => 0
  | .reelOpen _ => 1
  | .frameOpen _ => 2
  | .line _ => 3
  | .frameClose _ => 4
  | .splice => 5
  | .reelClose => 6

/-- One channel's black and gain in a word (R198). -/
def fadeWord (f : Fade) : Word := fld f.black 16 ||| fld f.gain 0

/-- The seven words of a frame status record (R198). -/
def statusWords (f : FrameStatus) : List Word :=
  [ f.frameNo, f.reelId, fld (signed16 f.dx) 16 ||| fld (signed16 f.dy) 0,
    fld f.confidence 24 ||| fld (flag f.untreated) 4 ||| fld (flag f.spliceBefore) 3 |||
      fld (flag f.exposureChanged) 2 ||| fld (flag f.shiftClamped) 1 ||| fld (flag f.regHeld) 0,
    fadeWord f.fade.r, fadeWord f.fade.g, fadeWord f.fade.b ]

/-- The two words of a repair summary (R198). -/
def summaryWords (r : RepairSummary) : List Word :=
  [ fld r.repaired 16 ||| fld r.unrepaired 0,
    fld r.lost 16 ||| fld (flag r.aborted) 2 ||| fld (flag r.overflow) 1 ||| fld (flag r.cut) 0 ]

/-- The two words of a pixel (R196). -/
def pixelWords (p : Pixel) : List Word :=
  [ fld p.r.toNat 16 ||| fld p.g.toNat 0, fld p.b.toNat 16 ||| fld p.ir.toNat 0 ]

/-- Payload words of an emitted part (R196 to R198). -/
def emittedPayload (lane : BitVec 4) : Emitted → List Word
  | .idle => []
  | .reelOpen h => h.reelId :: headerTail lane.toNat h
  | .frameOpen f => statusWords f
  | .line px => px.flatMap pixelWords
  | .frameClose r => summaryWords r
  | .splice => []
  | .reelClose => []

/-- The pixel count field of a LINE; 0 for the other kinds (R196). -/
def countField : Emitted → Nat
  | .line px => px.length / 16 - 1
  | _ => 0

/-- An outgoing ingest cell: header, service word, emitted payload, link check (R17, R196). -/
def ingestCellOf (attention : Nat) (summary : Bool) (slot : Option Word) (lane : BitVec 4) (e : Emitted) : WireCell :=
  sealCell
    ((fld (emittedKind e) 28 ||| fld attention 25 ||| fld (flag summary) 24 ||| fld (flag slot.isSome) 23 |||
        fld (countField e) 0) :: slot.getD 0 :: emittedPayload lane e)

/-! ## Service messages -/

/-- A start word (R199). -/
def startWord (verb count tag : Nat) : Word := fld Config.marker 24 ||| fld verb 16 ||| fld count 8 ||| fld tag 0

/-- A reply to a request: the verb with its top bit set, the body count, the request's tag, then the body (R185, R199). -/
def replyWords (verb : Nat) (tag : Byte) (body : List Word) : List Word :=
  startWord (verb ||| 0x80) body.length tag.toNat :: body

/-- The disposition notice of a record (R173, R187, R199). -/
def noticeWords (lane : BitVec 4) (r : ReelRecord) : List Word :=
  [ startWord 0xC0 3 0, r.header.reelId,
    fld r.placementId 24 ||| fld r.bay 16 ||| fld lane.toNat 12 ||| fld (outcomeCode r.outcome) 8 |||
      fld (reasonCode r.reason) 4 ||| fld (classCode r.finalClass) 0,
    fld (flag r.rescan) 1 ||| fld (flag r.hold) 0 ]

/-- A shrinkage as READ_REEL carries it; UNKNOWN reads 0x80000000 (R199). -/
def shrinkageWord : Option Int → Word
  | some v => signedWord v
  | none => 0x80000000

/-- The counters in the order of READ_REEL's words 11 to 24 (R199). -/
def counterWords (c : Counters) : List Word :=
  [ c.opened, c.emitted, c.dropped, c.discarded, c.held, c.creep, c.splices, c.tearRuns, c.scratches, c.repaired,
    c.unrepaired, c.lost, c.partials, c.trims ].map natWord

/-- Words 2 to 24 of the READ_REEL reply (R199). -/
def reelWords (r : ReelRecord) : List Word :=
  [ fld (stateCode r.state) 28 ||| fld (acqCode r.state) 24 ||| fld (acqOutcomeCode r.acqOutcome) 20 |||
      fld (classCode r.finalClass) 16 ||| fld (outcomeCode r.outcome) 12 ||| fld (reasonCode r.reason) 8 |||
      fld (flag (decide (r.gradeSel = .programmed))) 3 ||| fld (flag r.rescan) 2 ||| fld (flag r.hold) 1 |||
      fld (flag r.closeMissing) 0,
    r.header.reelId ] ++ headerTail 0 r.header ++
  [ fld r.placementId 24 ||| fld r.bay 16 ||| fld r.gradeCheck.toNat 0, natWord r.reelPitch,
    shrinkageWord r.reelShrinkage, shrinkageWord r.peakShrinkage, natWord r.maxGain ] ++ counterWords r.counters

end Sys2Proof.Machine
end

