-- ==== Sys2Proof/Machine/Ops.lean ====
section
/-! DEFINITION. The shared operations over the whole state: credits, slots and links, emission start and end, discards, the
end and the opening of a reel, disposal, the close of a frame, the sending of a cell, and the RESET verb's effects. -/
namespace Sys2Proof.Machine

/-! ## Records, slots, credits -/

/-- A reel record changed. -/
def updReel (r : Fin 2) (f : ReelRecord → ReelRecord) (s : State) : State :=
  { s with reels := { s.reels with recs := s.reels.recs.set r.val (f (s.reel r)) r.isLt } }

/-- A slot changed. -/
def updSlot (k : Fin 4) (f : Slot → Slot) (s : State) : State :=
  { s with store := { s.store with slots := s.store.slots.set k.val (f (s.slot k)) k.isLt } }

/-- Every slot changed. -/
def mapSlots (f : Slot → Slot) (s : State) : State :=
  { s with store := { s.store with slots := s.store.slots.map f } }

/-- A credit to a 32-bit counter of the reel record (R32). -/
def credit32 (n k : Nat) : Nat := satAdd Config.counterMax n k

/-- Counters of the record a tag names changed; a credit that names no record or a FREE one is disregarded (R31). -/
def creditTo (tag : Option (Fin 2)) (f : Counters → Counters) (s : State) : State :=
  match tag with
  | none => s
  | some r =>
    if (s.reel r).state = .free then s else updReel r (fun x => { x with counters := f x.counters }) s

/-- A unit's write to a record; a write that names a FREE record is disregarded (R31). -/
def writeTo (r : Fin 2) (f : ReelRecord → ReelRecord) (s : State) : State :=
  if (s.reel r).state = .free then s else updReel r f s

/-- The lowest-numbered FREE slot (R41). -/
def freeSlotIdx (s : State) : Option (Fin 4) := slotIdx.find? fun k => decide ((s.slot k).state = .free)

/-- The KEPT slot, if one is KEPT (R120). -/
def keptSlotIdx (s : State) : Option (Fin 4) := slotIdx.find? fun k => decide ((s.slot k).state = .kept)

/-- A slot is EMITTING (R45). -/
def anyEmitting (s : State) : Bool := slotIdx.any fun k => decide ((s.slot k).state = .emitting)

/-- A slot counts in its reel's store term: FILLING, CLOSED or EMITTING (R28, R39). -/
def inStore (x : Slot) : Bool :=
  match x.state with
  | .filling => true
  | .closed => true
  | .emitting => true
  | .free => false
  | .kept => false

/-- Frames of a reel still in the store (R28). -/
def storeCount (s : State) (r : Fin 2) : Nat :=
  (slotIdx.filter fun k => decide ((s.slot k).tag = some r) && inStore (s.slot k)).length

/-! ## Successor links (R44) -/

/-- An UNSETTLED link of a stored frame takes the value `v` gives it. -/
def settleLinks (v : Slot → SuccLink) (s : State) : State :=
  mapSlots (fun x => if x.state ≠ .free ∧ x.link = .unsettled then { x with link := v x } else x) s

/-- A link PENDING on slot `k` moves on at the end of that slot's filling. -/
def movePending (k : Fin 4) (v : SuccLink) (s : State) : State :=
  mapSlots (fun x => if x.state ≠ .free ∧ x.link = .pending k then { x with link := v } else x) s

/-- A link that lets its frame start its emission: READY or NONE (R45). -/
def linkSettled : SuccLink → Bool
  | .unsettled => false
  | .pending _ => false
  | .ready _ => true
  | .none => true

/-! ## Emission start (R45, R46) -/

/-- The frame status record of a frame (R18). -/
def statusOf (s : State) (x : Slot) : FrameStatus :=
  match x.tag with
  | some r =>
    { frameNo := x.frameNo, reelId := (s.reel r).header.reelId, dx := x.dx, dy := x.dy, confidence := x.confidence,
      untreated := false, spliceBefore := x.spliceBefore, exposureChanged := x.exposureChanged,
      shiftClamped := x.shiftClamped, regHeld := x.regHeld, fade := x.fade }
  | none =>
    { frameNo := x.frameNo, reelId := 0, dx := 0, dy := 0, confidence := 0, untreated := true, spliceBefore := false,
      exposureChanged := false, shiftClamped := false, regHeld := false, fade := rgbAll ⟨0, 16384⟩ }

/-- The successor slot a READY link names (R120). -/
def readySlot (l : SuccLink) : Option (Fin 4) :=
  match l with
  | .ready k => some k
  | _ => none

/-- The plan of the treated frame in slot `k` against its neighbours as the store stands (R120). -/
def planFor (s : State) (k : Fin 4) (r : Fin 2) : Plan :=
  makePlan (s.reel r).header k (s.slot k) ((keptSlotIdx s).map fun i => (i, s.slot i))
    ((readySlot (s.slot k).link).map fun i => (i, s.slot i))

/-- The plan's credits (R125). -/
def creditPlan (p : Plan) (c : Counters) : Counters :=
  { c with repaired := credit32 c.repaired p.repaired, unrepaired := credit32 c.unrepaired p.unrepaired,
           partials := credit32 c.partials (flag p.cut) }

/-- A written pending trim taken into use (R155). -/
def takeTrim (tag : Option (Fin 2)) (s : State) : State :=
  if s.grade.written then
    creditTo tag (fun c => { c with trims := credit32 c.trims 1 })
      { s with grade := { s.grade with trim := s.grade.pendingTrim, written := false } }
  else s

/-- The repair plan made and credited, and a pending trim taken up, for a treated frame (R46, R120, R125, R155). -/
def planFrame (k : Fin 4) (r : Fin 2) (s : State) : State :=
  let p := planFor s k r
  takeTrim (some r) (creditTo (some r) (creditPlan p) { s with repair := some p })

/-- The emission start of the frame in slot `k` (R46). -/
def startEmission (k : Fin 4) (s : State) : State :=
  let st := statusOf s (s.slot k)
  let s1 := match (s.slot k).tag with
    | some r => planFrame k r s
    | none => s
  let s2 := updSlot k (fun x => { x with state := .emitting }) s1
  { s2 with store := { s2.store with emission := some ⟨k, 0, st⟩ } }

/-- The head of the emission list checked: a CLOSED frame with a settled link starts its emission if no slot is
EMITTING (R45). A control entry at the head is offered by `nextEmitted` (R48). -/
def checkHead (s : State) : State :=
  match s.store.list with
  | .frame k :: _ =>
    if !anyEmitting s && decide ((s.slot k).state = .closed) && linkSettled (s.slot k).link then startEmission k s
    else s
  | _ => s

/-! ## Disposal (R28 to R30, R169) -/

/-- The placement count handed on after a change of it (R95, R172). -/
def handCount (s : State) : State :=
  { s with xport := { s.xport with hyst := hystAfter s.shelf.placements.length s.xport.hyst } }

/-- The reserved notice position is free (R186). -/
def noticeFree (s : State) : Bool := !s.svc.queue.any (·.notice)

/-- The notice position taken for the DISPOSING record that waits longest: its notice queued, the record copied to the
last-disposed record, the record FREE (R30). -/
def takeNotice (s : State) : State :=
  match s.reels.waiting with
  | [] => s
  | r :: rest =>
    if noticeFree s then
      let t := { s with
        svc := { s.svc with queue := s.svc.queue ++ [⟨true, noticeWords s.link.lane (s.reel r)⟩] }
        reels := { s.reels with last := { s.reel r with state := .disposing }, waiting := rest } }
      updReel r (fun x => { x with state := .free }) t
    else s

/-- A record's entry into DISPOSING: disposition, results written, the count handed on if a placement was appended, and
the notice position taken if it is free (R29, R30, R169, R172). -/
def disposeReel (r : Fin 2) (s : State) : State :=
  let d := dispose s.shelf (s.reel r)
  let s1 := updReel r (fun _ => { d.1 with state := .disposing }) { s with shelf := d.2 }
  let s2 := if d.1.outcome = .placed then handCount s1 else s1
  takeNotice { s2 with reels := { s2.reels with waiting := s2.reels.waiting ++ [r] } }

/-- The store count of a DRAINING record judged: at zero the record enters DISPOSING (R28). -/
def judgeStore (r : Fin 2) (s : State) : State :=
  if (s.reel r).state = .draining ∧ storeCount s r = 0 then disposeReel r s else s

/-! ## Emission end (R47) -/

/-- A frame entry taken out of the emission list. -/
def removeFrame (k : Fin 4) (s : State) : State :=
  { s with store := { s.store with list := s.store.list.filter fun e => decide (e ≠ .frame k) } }

/-- The KEPT predecessor of slot `k` freed (R47, step 3). -/
def releaseKept (k : Fin 4) (s : State) : State :=
  mapSlots (fun x => if x.state = .kept ∧ x.link = .ready k then { x with state := .free } else x) s

/-- The state a frame's slot takes at its emission end: KEPT for a treated frame with a READY link (R47, step 4). -/
def stateAfterEmission (x : Slot) : SlotState :=
  if x.tag.isSome ∧ (readySlot x.link).isSome then .kept else .free

/-- The emission end of the frame in slot `k`: entry gone, credit, predecessor freed, slot KEPT or FREE, plan discarded,
store count judged, new head checked (R47, R119). -/
def endEmission (k : Fin 4) (s : State) : State :=
  let tag := (s.slot k).tag
  let s1 := creditTo tag (fun c => { c with emitted := credit32 c.emitted 1 }) (removeFrame k s)
  let s2 := updSlot k (fun x => { x with state := stateAfterEmission x }) (releaseKept k s1)
  let s3 := { s2 with repair := none, store := { s2.store with emission := none } }
  checkHead (match tag with
    | some r => judgeStore r s3
    | none => s3)

/-! ## Discards (R14, R53) -/

/-- The per-frame defect state of a slot cleared: region table, OPEN marks, DEFECT_OVERFLOW and discarded segments (R117,
R118). -/
def clearDefects (x : Slot) : Slot := { x with defectOverflow := false, regions := [], regionsLost := 0 }

/-- A FILLING frame removed from the store before its close: its stored lines and histograms are abandoned with the slot,
where they stand until the next allocation (R53, R156, R40). -/
def discardFrame (k : Fin 4) (s : State) : State :=
  movePending k .none (removeFrame k (updSlot k (fun x => { x with state := .free }) s))

/-- The hole state cleared, and the reference dropped if the frame's reel is ACTIVE (R68, R81). -/
def regDiscard (r : Fin 2) (s : State) : State :=
  let u := { s.reg with hole := emptyHole }
  { s with reg := if (s.reel r).isActive then dropReference u else u }

/-- The LINK_FAULT discard of the treated frame in slot `k` of reel record `r` (R14). The frame's defect state, which R117
calls abandoned with the slot and R118 cleared, is cleared as the slot is freed (DEDUCED, log 25). -/
def linkFaultDiscard (k : Fin 4) (r : Fin 2) (s : State) : State :=
  checkHead (judgeStore r (regDiscard r
    (creditTo (some r) (fun c => { c with discarded := credit32 c.discarded 1 })
      (raiseCause .linkFault (updSlot k clearDefects (discardFrame k s))))))

/-- The scan-port receive state set (R6). -/
def setRx (x : RxState) (s : State) : State := { s with link := { s.link with rx := x } }

/-- An open frame cut short by an arriving control cell or FRAME_OPEN (R13). -/
def cutShort (s : State) : State :=
  match s.link.rx with
  | .between => s
  | .ignoring => setRx .between s
  | .filling k =>
    setRx .between (match (s.slot k).tag with
      | some r => linkFaultDiscard k r s
      | none => checkHead (raiseCause .linkFault (discardFrame k s)))

/-! ## Control cells and reels -/

/-- A control entry of the emission list (R43). -/
def isControl : Entry → Bool
  | .frame _ => false
  | .reelOpen _ => true
  | .splice => true
  | .reelClose => true

/-- A control cell handed to the frame store: appended, or FRAME_LOST raised if the list holds 16 control entries (R43). -/
def appendControl (e : Entry) (s : State) : State :=
  if (s.store.list.filter isControl).length < Config.maxControls then
    { s with store := { s.store with list := s.store.list ++ [e] } }
  else raiseCause .frameLost s

/-- The track list cleared, its CONFIRMED tracks credited to a record (R115). -/
def clearTracks (tag : Option (Fin 2)) (s : State) : State :=
  let n := confirmedCount s.defect.tracks
  creditTo tag (fun c => { c with scratches := credit32 c.scratches n })
    { s with defect := { s.defect with tracks := [] } }

/-- The close test leaves the acquisition FAILED (R77). -/
def closeTestFails (s : State) (r : Fin 2) : Bool :=
  collecting (s.reel r) &&
    (match s.reg.closeCopy with
     | some c => decide (s.reg.count < c.acqMin)
     | none => true)

/-- The close test of a reel that ends (R77). -/
def closeTest (r : Fin 2) (s : State) : State :=
  if collecting (s.reel r) then
    match s.reg.closeCopy with
    | some c =>
      let t := updReel r (settleAcq c.acqMin c.unshrunkPitch s.reg.sum s.reg.count) s
      if c.acqMin ≤ s.reg.count then t else raiseCause .acqFailed t
    | none =>
      raiseCause .acqFailed (updReel r (fun x => { x with state := .active .failed, acqOutcome := .failed }) s)
  else s

/-- The end of the ACTIVE reel `r`: close test, CLOSE_MISSING for an implicit close, tracks and tear memory cleared,
DRAINING, and DISPOSING at once if none of its frames is left in the store (R25, R27, R28, R108, R115). -/
def closeReel (r : Fin 2) (implicit : Bool) (s : State) : State :=
  let s1 := clearTracks (some r) (closeTest r s)
  let s2 := { s1 with defect := { s1.defect with tearMem := none } }
  judgeStore r (updReel r (fun x => { x with state := .draining, closeMissing := x.closeMissing || implicit }) s2)

/-- The record of a reel at its opening (R24). -/
def openedRecord (h : ReelHeader) (g : Grading) : ReelRecord :=
  { freeRecord with state := .active .acquiring, header := h, gradeSel := g.sel, gradeCheck := checkInForce g }

/-- The opening of record `r`: the record filled and the units told. `keepFailed` says that an ACQ_FAILED raised in this
same event stays latched (R24, R25). -/
def openReel (r : Fin 2) (h : ReelHeader) (keepFailed : Bool) (s : State) : State :=
  let s1 := updReel r (fun _ => openedRecord h s.grade) s
  { s1 with
    reg := regOpen s1.reg
    xport := transportOpen h.step s1.xport
    defect := { s1.defect with tracks := [], tearMem := none }
    grade := { s1.grade with fade := setDirect s1.grade.fade }
    svc := { s1.svc with causes := { s1.svc.causes with acqFailed := s1.svc.causes.acqFailed && keepFailed } } }

/-- The lowest-numbered FREE record (R23). -/
def freeRec (s : State) : Option (Fin 2) := recIdx.find? fun r => decide ((s.reel r).state = .free)

/-- A REEL_OPEN with no record ACTIVE: the lowest FREE record opens, or the reel is refused; `ended` says that a reel
was closed implicitly in this event (R23, R26, R86). -/
def openOrRefuse (h : ReelHeader) (ended keepFailed : Bool) (s : State) : State :=
  match freeRec s with
  | some r => openReel r h keepFailed s
  | none =>
    { s with
      reels := { s.reels with refused := satAdd 65535 s.reels.refused 1 }
      xport := if ended then transportIdle s.xport else s.xport }

/-- The reel table takes a REEL_OPEN (R23 to R26). -/
def takeReelOpen (h : ReelHeader) (s : State) : State :=
  match activeRec s with
  | some r => openOrRefuse h true (closeTestFails s r) (closeReel r true s)
  | none => openOrRefuse h false false s

/-- The reel table takes a REEL_CLOSE (R27, R86). -/
def takeReelClose (s : State) : State :=
  match activeRec s with
  | some r =>
    let t := closeReel r false s
    { t with xport := transportIdle t.xport }
  | none => s

/-- The units take a SPLICE (R10, R52, R68, R115, R145). -/
def takeSplice (s : State) : State :=
  let s1 := match activeRec s with
    | some r =>
      let t := clearTracks (some r)
        (creditTo (some r) (fun c => { c with splices := credit32 c.splices 1 }) s)
      { t with reg := dropReference t.reg }
    | none => s
  { s1 with store := { s1.store with spliceSeen := true }, grade := { s1.grade with fade := setDirect s1.grade.fade } }

/-- A control cell from the head: the open frame cut short, the last frame's link settled to NONE, the units' own work,
the emission list, and the new head checked (R10, R13, R43, R44, R45). -/
def controlCell (e : Entry) (work : State → State) (s : State) : State :=
  checkHead (appendControl e (work (settleLinks (fun _ => .none) (cutShort s))))

/-! ## A frame's opening (R7, R41, R42) -/

/-- The slot record at allocation (R40). -/
def allocated (s : State) (tag : Option (Fin 2)) (frameNo : Word) (step : Nat) (cls : SpeedClass) : Slot :=
  { freeSlot with
    state := .filling, tag := tag, frameNo := frameNo, repStep := step, repClass := cls,
    latch := ⟨s.reg.table, s.defect.table, areaOf (setInForce s.grade)⟩,
    spliceBefore := s.store.spliceSeen && tag.isSome,
    link := if tag.isSome then .unsettled else .none }

/-- The value an UNSETTLED link takes at a FRAME_OPEN: PENDING if the new frame is its adjacent successor and was granted
a slot, NONE otherwise (R44). -/
def linkAtOpen (tag : Option (Fin 2)) (frameNo : Word) (granted : Option (Fin 4)) (x : Slot) : SuccLink :=
  match granted with
  | some k =>
    if x.tag.isSome ∧ x.tag = tag ∧ x.frameNo.toNat + 1 = frameNo.toNat then .pending k else .none
  | none => .none

/-- The credits of a FRAME_OPEN: `frames_opened`, `creep_frames` for S3, `frames_dropped` for a drop (R41, R42, R90). -/
def creditOpen (cls : SpeedClass) (granted : Bool) (c : Counters) : Counters :=
  { c with opened := credit32 c.opened 1, creep := credit32 c.creep (flag (decide (cls = .s3))),
           dropped := credit32 c.dropped (flag (!granted)) }

/-- A FRAME_OPEN taken in BETWEEN (R7, R41, R42, R44, R52, R90). -/
def takeFrameOpen (frameNo : Word) (step : Nat) (cls : SpeedClass) (s : State) : State :=
  let tag := activeRec s
  let granted := freeSlotIdx s
  let s1 := settleLinks (linkAtOpen tag frameNo granted) (creditTo tag (creditOpen cls granted.isSome) s)
  match granted with
  | some k =>
    let s2 := updSlot k (fun _ => allocated s tag frameNo step cls) s1
    setRx (.filling k)
      { s2 with store := { s2.store with list := s2.store.list ++ [.frame k], spliceSeen := false }
                reg := { s2.reg with hole := emptyHole } }
  | none =>
    setRx .ignoring (raiseCause .frameLost { s1 with store := { s1.store with spliceSeen := false } })

/-! ## A line (R8, R12) -/

/-- A line written into a slot as the next line of its frame (R8). -/
def storeLine (line : List Pixel) (x : Slot) : Slot := { x with lines := x.lines ++ [line], lineCount := x.lineCount + 1 }

/-- What the defect unit and the histogram collectors see of a treated line (R100 to R106, R141). -/
def seeLine (line : List Pixel) (x : Slot) : Slot :=
  let w := regionLine x.latch x.lineCount line ⟨x.regions, x.defectOverflow, x.regionsLost⟩
  { x with regions := w.regions, defectOverflow := w.overflow, regionsLost := w.lost,
           hist := histLine x.latch x.lineCount line x.hist }

/-- A line of the FILLING treated frame in slot `k` of reel `r` that fits the geometry (R8, R60). -/
def takeTreatedLine (k : Fin 4) (r : Fin 2) (line : List Pixel) (s : State) : State :=
  let h := (s.reel r).header
  let x := s.slot k
  updSlot k (fun x => storeLine line (seeLine line x))
    { s with reg := { s.reg with hole := regLine x.latch.reg h.holes h.lines x.lineCount line s.reg.hole } }

/-- A LINE cell taken according to the receive state (R8, R12). -/
def takeLine (line : List Pixel) (s : State) : State :=
  match s.link.rx with
  | .between => s
  | .ignoring => s
  | .filling k =>
    match (s.slot k).tag with
    | some r =>
      if line.length = (s.reel r).header.pixels ∧ (s.slot k).lineCount < (s.reel r).header.lines then
        takeTreatedLine k r line s
      else setRx .ignoring (linkFaultDiscard k r s)
    | none =>
      if (s.slot k).lineCount < Config.maxLines then updSlot k (storeLine line) s
      else setRx .ignoring (checkHead (discardFrame k s))

/-! ## A treated frame's close (R9) -/

/-- ACQ_TIMEOUT: a collecting acquisition whose `frames_since_open` has reached the closing frame's acq_timeout locks or
fails (R76). -/
def acqTimeoutStep (k : Fin 4) (r : Fin 2) (s : State) : State :=
  let t := (s.slot k).latch.reg
  if collecting (s.reel r) ∧ t.acqTimeout ≤ s.reg.sinceOpen then
    let u := updReel r (settleAcq t.acqMin t.unshrunkPitch s.reg.sum s.reg.count) s
    if t.acqMin ≤ s.reg.count then u else raiseCause .acqFailed u
  else s

/-- The acquisition step of a close, with the close-test copy (R75 to R77). -/
def acqClose (k : Fin 4) (r : Fin 2) (sample : Option Nat) (s : State) : State :=
  let t := (s.slot k).latch.reg
  let u := acqCount sample (s.reel r) s.reg
  let s1 := acqTimeoutStep k r (updReel r (acqAdvance t.acqMin u.count) { s with reg := u })
  { s1 with reg := { s1.reg with closeCopy := some ⟨t.acqMin, t.unshrunkPitch⟩ } }

/-- The registration unit's close of the treated frame in slot `k` of reel `r` (R79). -/
def regClose (k : Fin 4) (r : Fin 2) (s : State) : State :=
  let t := (s.slot k).latch.reg
  let e := (s.reel r).header.holes
  let hole := endRun t e (s.reel r).header.lines s.reg.hole
  let n := hole.used.length
  let held := frameHeld t n e
  let m := measure t (pitchInUse (s.reel r) t) e hole.used s.reg
  let s1 := { s with reg := { s.reg with hole := hole, ref := m.ref, goodDx := m.goodDx, goodDy := m.goodDy } }
  let s2 := updReel r (takePeak m.sample t.unshrunkPitch) (acqClose k r m.sample s1)
  let s3 := updSlot k (fun x => { x with dx := m.dx, dy := m.dy, confidence := confidenceOf n e, regHeld := held,
                                         shiftClamped := m.clamped }) s2
  let s4 := creditTo (some r) (fun c => { c with held := credit32 c.held (flag held) }) s3
  { s4 with reg := { s4.reg with lastHeld := held } }

/-- TRACK_RETIRE: the confirmed tracks whose missing count has reached the closing frame's F leave the list, each credited
to the frame's reel record (R114). -/
def retireTracks (k : Fin 4) (r : Fin 2) (s : State) : State :=
  let d := (s.slot k).latch.defect
  let n := (s.defect.tracks.filter (retires d)).length
  creditTo (some r) (fun c => { c with scratches := credit32 c.scratches n })
    { s with defect := { s.defect with tracks := s.defect.tracks.filter fun t => !retires d t } }

/-- The tear memory judged: a run start is credited and raises TEAR; then it takes the frame (R108). -/
def judgeTear (r : Fin 2) (frameNo : Word) (torn : Bool) (s : State) : State :=
  let start := torn && startsTearRun s.defect.tearMem frameNo
  let s1 := creditTo (some r) (fun c => { c with tearRuns := credit32 c.tearRuns (flag start) }) s
  let s2 := if start then raiseCause .tear s1 else s1
  { s2 with defect := { s2.defect with tearMem := some ⟨frameNo, torn⟩ } }

/-- The defect unit's close (R116). -/
def defectClose (k : Fin 4) (r : Fin 2) (s : State) : State :=
  let x := s.slot k
  let c := classifyRegions x.latch.defect x.frameNo x.regions (candidateGate x.frameNo (clearMarks s.defect.tracks))
  let s1 := retireTracks k r { s with defect := { s.defect with tracks := countMisses c.2 } }
  let s2 := judgeTear r x.frameNo (hasTear c.1) s1
  creditTo (some r) (fun n => { n with lost := credit32 n.lost x.regionsLost })
    (updSlot k (fun x => { x with regions := c.1, tearPresent := hasTear c.1 }) s2)

/-- The grading pipeline's close (R148). -/
def gradeClose (k : Fin 4) (r : Fin 2) (s : State) : State :=
  let f := fadeClose (setInForce s.grade) (s.slot k).hist s.grade.fade
  let s1 := updSlot k (fun x => { x with fade := appliedFade f }) { s with grade := { s.grade with fade := f } }
  writeTo r (fun x => { x with maxGain := max x.maxGain (largestGain f) }) s1

/-- EXPOSURE_ADOPTION: the head's step adopted once the mismatch counter has reached 4 (R93). -/
def adoptionStep (k : Fin 4) (s : State) : State :=
  { s with xport := adoptStep (s.slot k).repStep s.xport }

/-- Transport control's decisions at the close (R87, R92 to R94). -/
def transportClose (k : Fin 4) (r : Fin 2) (s : State) : State :=
  let x := s.slot k
  let acquiring := decide ((s.reel r).state = .active .acquiring)
  let highPm := (gradeVal (setInForce s.grade) 222).toNat
  let changed := exposureChangedFrom s.xport.lastReported x.repStep
  let t := exposureClose x.repStep highPm x.hist
    (speedClose x.tearPresent acquiring x.regHeld x.confidence x.latch.reg.upConf s.xport)
  let s1 := adoptionStep k { s with xport := { t with lastReported := some x.repStep } }
  updSlot k (fun x => { x with exposureChanged := changed }) s1

/-- The close of the treated frame in slot `k` of reel `r`: the three units' close work, the slot CLOSED, the
predecessor's link READY, then transport control (R9, R44). -/
def closeTreated (k : Fin 4) (r : Fin 2) (s : State) : State :=
  let s1 := gradeClose k r (defectClose k r (regClose k r s))
  transportClose k r (movePending k (.ready k) (updSlot k (fun x => { x with state := .closed }) s1))

/-- A FRAME_CLOSE taken according to the receive state (R9). -/
def takeFrameClose (s : State) : State :=
  match s.link.rx with
  | .between => s
  | .ignoring => setRx .between s
  | .filling k =>
    setRx .between (match (s.slot k).tag with
      | some r =>
        if (s.slot k).lineCount = (s.reel r).header.lines then checkHead (closeTreated k r s)
        else linkFaultDiscard k r s
      | none => checkHead (updSlot k (fun x => { x with state := .closed }) s))

/-- The frame whose close is being made: the open treated frame with all its lines taken. The commands ACQ_TIMEOUT,
EXPOSURE_ADOPTION and TRACK_RETIRE act on it (log 12). -/
def closingFrame (s : State) : Option (Fin 4 × Fin 2) :=
  match s.link.rx with
  | .filling k =>
    match (s.slot k).tag with
    | some r => if (s.slot k).lineCount = (s.reel r).header.lines then some (k, r) else none
    | none => none
  | _ => none

/-! ## The emission stream and the outgoing ingest cell (R17 to R19, R46 to R51) -/

/-- The repair summary of the EMITTING frame (R18, R132). -/
def summaryOf (s : State) (k : Fin 4) (aborted : Bool) : RepairSummary :=
  match (s.slot k).tag, s.repair with
  | some _, some p =>
    { repaired := p.repaired, unrepaired := p.unrepaired, lost := (s.slot k).regionsLost, aborted := aborted,
      overflow := (s.slot k).defectOverflow, cut := p.cut }
  | some _, none =>
    { repaired := 0, unrepaired := 0, lost := (s.slot k).regionsLost, aborted := aborted,
      overflow := (s.slot k).defectOverflow, cut := false }
  | none, _ => { repaired := 0, unrepaired := 0, lost := 0, aborted := aborted, overflow := false, cut := false }

/-- Output line `y` of the frame in slot `k`: as stored for an untreated frame (R49), formed for a treated one
(R50, R51). -/
def emittedLine (s : State) (k : Fin 4) (y : Nat) : List Pixel :=
  match (s.slot k).tag with
  | none => ((s.slot k).lines[y]?).getD []
  | some r =>
    match s.repair with
    | some p =>
      outputLine (s.reel r).header (s.slot k) (p.pred.map s.slot) (p.succ.map s.slot) p.methods
        (setInForce s.grade) s.grade.trim y
    | none => outputLine (s.reel r).header (s.slot k) none none [] (setInForce s.grade) s.grade.trim y

/-- Lines the frame in slot `k` sends (R46, R49). -/
def linesToSend (s : State) (k : Fin 4) : Nat :=
  match (s.slot k).tag with
  | none => (s.slot k).lineCount
  | some r => (s.reel r).header.lines

/-- The next cell of an emission at its position: FRAME_OPEN, the lines, FRAME_CLOSE; nothing after it (R46). -/
def emissionCell (s : State) (e : Emission) : Emitted × SentPart :=
  match e.pos with
  | 0 => (.frameOpen e.status, .plain)
  | y + 1 =>
    if y < linesToSend s e.slot then (.line (emittedLine s e.slot y), .plain)
    else if y = linesToSend s e.slot then (.frameClose (summaryOf s e.slot false), .frameClose)
    else (.idle, .plain)

/-- The control cell of an entry (R48). -/
def controlEmitted : Entry → Emitted
  | .reelOpen h => .reelOpen h
  | .splice => .splice
  | .reelClose => .reelClose
  | .frame _ => .idle

/-- The next cell of the emission stream and the stream after it: an aborted FRAME_CLOSE first (R20, R56), then the
emission under way (R46), then a control entry at the head of the list with no slot EMITTING (R48). -/
def nextEmitted (s : State) : Emitted × SentPart × State :=
  match s.link.aborted with
  | r :: rest => (.frameClose r, .plain, { s with link := { s.link with aborted := rest } })
  | [] =>
    match s.store.emission with
    | some e =>
      let c := emissionCell s e
      (c.1, c.2, { s with store := { s.store with emission := some { e with pos := e.pos + 1 } } })
    | none =>
      match s.store.list with
      | [] => (.idle, .plain, s)
      | e :: _ => if isControl e && !anyEmitting s then (controlEmitted e, .control, s) else (.idle, .plain, s)

/-- The emitted part of the cell being composed: IDLE while the pause state is on (R17, R19). -/
def composeEmitted (s : State) : Emitted × SentPart × State :=
  if s.link.pause then (.idle, .plain, s) else nextEmitted s

/-- The service slot of the cell being composed, whether it is the second copy of the last word of the message at the
head of the queue, and the transmit side after it (R17, R186, R194). -/
def composeSlot (s : State) : Option Word × Bool × State :=
  match s.svc.leftover with
  | some w => (some w, false, { s with svc := { s.svc with leftover := none } })
  | none =>
    match s.svc.queue with
    | [] => (none, false, s)
    | m :: _ =>
      match m.words[s.svc.copies / 2]? with
      | some w =>
        (some w, decide (s.svc.copies + 1 = 2 * m.words.length),
          { s with svc := { s.svc with copies := s.svc.copies + 1 } })
      | none => (none, false, s)

/-- The position of the message at the head of the queue freed, and taken by a waiting DISPOSING record (R30, R186). -/
def freePosition (s : State) : State :=
  takeNotice { s with svc := { s.svc with queue := s.svc.queue.tail, copies := 0 } }

/-- A control entry sent: it leaves the list and the new head is checked (R48). -/
def sendControl (s : State) : State :=
  checkHead { s with store := { s.store with list := s.store.list.tail } }

/-- What the end of the sending of an emitted part brings about (R47, R48). -/
def sentPart (p : SentPart) (s : State) : State :=
  match p with
  | .plain => s
  | .control => sendControl s
  | .frameClose =>
    match s.store.emission with
    | some e => endEmission e.slot s
    | none => s

/-- The sending of the outgoing ingest cell under way is over (R47, R48, R186). Where the cell carries both a message's last
copy and a FRAME_CLOSE, the position is freed before the emission ends, and the two settle as one event (DESIGN CHOICE,
log 27). -/
def completeCell (s : State) : State :=
  match s.link.inFlight with
  | none => s
  | some f =>
    let s1 := { s with link := { s.link with inFlight := none } }
    settle s (sentPart f.part (if f.lastCopy then freePosition s1 else s1))

/-- An outgoing ingest cell composed from the emission stream, the transmit side, the attention code and the summary
flag (R17). -/
def composeCell (s : State) : State :=
  let e := composeEmitted s
  let v := composeSlot e.2.2
  let t := v.2.2
  { t with link := { t.link with
      ingestOut := some (ingestCellOf (attentionCode s) s.svc.summary v.1 s.link.lane e.1)
      inFlight := some ⟨e.2.1, v.2.1⟩ } }

/-! ## The RESET verb (R20, R38, R56, R82, R97, R118, R134, R157, R180, R194) -/

/-- The repair summary a RESET hands the link unit: none unless a frame is EMITTING whose FRAME_CLOSE is not already
under way (R56). -/
def abortSummary (s : State) : List RepairSummary :=
  match s.store.emission with
  | none => []
  | some e =>
    match s.link.inFlight with
    | some ⟨.frameClose, _⟩ => []
    | _ => [summaryOf s e.slot true]

/-- The link unit at the RESET verb (R20); a cell under way completes without any effect (R56). -/
def linkReset (s : State) : LinkUnit :=
  { s.link with
    errors := 0
    rx := match s.link.rx with
      | .between => .between
      | _ => .ignoring
    aborted := s.link.aborted ++ abortSummary s
    inFlight := s.link.inFlight.map fun _ => ⟨.plain, false⟩ }

/-- The word whose second copy is still due after a RESET (R194, step 1). -/
def leftoverWord (v : Service) : Option Word :=
  match v.leftover with
  | some w => some w
  | none =>
    match v.queue with
    | [] => none
    | m :: _ => if v.copies % 2 = 1 then m.words[v.copies / 2]? else none

/-- The service engine at the RESET verb, its reply queued (R194). -/
def serviceReset (reply : List Word) (v : Service) : Service :=
  { pair := .expectFirst, framing := .waiting, queue := [⟨false, reply⟩], copies := 0, leftover := leftoverWord v,
    faultKind := .none, faultCount := 0, stray := 0, mask := Config.defaultMask, summary := true,
    causes := { noCauses with condChange := true }, resetSeen := true }

/-- A slot at the RESET verb: FREE whatever its state, the filling frame's defect state and histograms cleared with it, and
every other content as it stands (R40, R56, R117, R118, R156, R157; log 25). -/
def resetSlot (x : Slot) : Slot :=
  if x.state = .filling then { clearDefects x with state := .free, hist := emptyHist } else { x with state := .free }

/-- Every block's RESET effects, with the reply to queue. -/
def resetBlocks (reply : List Word) (s : State) : State :=
  { s with
    link := linkReset s
    reels := { s.reels with recs := s.reels.recs.map fun r => { r with state := .free }, waiting := [], refused := 0 }
    store := { slots := s.store.slots.map resetSlot, list := [], spliceSeen := false,
               emission := none }
    reg := regReset s.reg
    xport := transportReset s.xport
    defect := { s.defect with tracks := [], tearMem := none }
    repair := none
    grade := { s.grade with sel := .fixed, pendingTrim := identityTrim, written := false, trim := identityTrim,
                            fade := resetFade }
    svc := serviceReset reply s.svc }

/-- A command's effect while NPOR is high; while NPOR is low the part holds its power-on state (R201, log 4). -/
def whilePowered (f : State → State) (s : State) : Host.Outcome State Fault Refusal :=
  .next (if s.npor then f s else s)

end Sys2Proof.Machine
end

