-- ==== Sys2Proof/Machine/Events.lean ====
section
/-! DEFINITION. The NPOR pin (R201) and the events inside the part as commands of their own (log 12): each happens if its
condition holds and changes nothing otherwise. -/
namespace Sys2Proof.Machine

/-- POWER_ON: the rise of NPOR puts every block in its power-on state and samples the straps (R201). -/
def execPowerOn (lane : BitVec 4) (s : State) : Host.Outcome State Fault Refusal :=
  .next { powerOnState lane with pending := s.pending }

/-- NPOR_FALL: every operation in flight is abandoned and every block is held in its power-on state (R201). -/
def execNporFall (s : State) : Host.Outcome State Fault Refusal :=
  .next { powerOnState 0 with pending := s.pending, npor := false }

/-- EMISSION_START (R45). -/
def execEmissionStart (s : State) : Host.Outcome State Fault Refusal :=
  whilePowered (fun s => settle s (checkHead s)) s

/-- EMISSION_END: the sending of the FRAME_CLOSE under way is over (R47). -/
def execEmissionEnd (s : State) : Host.Outcome State Fault Refusal :=
  whilePowered (fun s =>
    match s.link.inFlight with
    | some ⟨.frameClose, _⟩ => completeCell s
    | _ => s) s

/-- ENTER_DISPOSING: each DRAINING record whose store count is zero, the lower-numbered first (R28, R29). -/
def execEnterDisposing (s : State) : Host.Outcome State Fault Refusal :=
  whilePowered (fun s => settle s (judgeStore 1 (judgeStore 0 s))) s

/-- DISPOSITION_NOTICE (R30). -/
def execDispositionNotice (s : State) : Host.Outcome State Fault Refusal :=
  whilePowered (fun s => settle s (takeNotice s)) s

/-- ACQ_TIMEOUT (R76). -/
def execAcqTimeout (s : State) : Host.Outcome State Fault Refusal :=
  whilePowered (fun s =>
    match closingFrame s with
    | some (k, r) => settle s (acqTimeoutStep k r s)
    | none => s) s

/-- EXPOSURE_ADOPTION (R93). -/
def execExposureAdoption (s : State) : Host.Outcome State Fault Refusal :=
  whilePowered (fun s =>
    match closingFrame s with
    | some (k, _) => settle s (adoptionStep k s)
    | none => s) s

/-- TRACK_RETIRE (R114). -/
def execTrackRetire (s : State) : Host.Outcome State Fault Refusal :=
  whilePowered (fun s =>
    match closingFrame s with
    | some (k, r) => settle s (retireTracks k r s)
    | none => s) s

end Sys2Proof.Machine
end

