-- ==== Sys2Proof/Machine/Messages.lean ====
section
/-! DEFINITION. Service messages: judgement and execution (R185), each verb's action (R188 to R191 and its own rule), and the
meanings of the thirteen verb commands. -/
namespace Sys2Proof.Machine

/-- The request verbs (R188). -/
inductive Verb where
  | identify | readStatus | setMask | writeTable | readTable | selectGrade | trim | setCeiling | readReel | checksum
  | placeConfirm | placeRefuse | reset
  deriving DecidableEq, Repr

/-- Code of a verb (R199). -/
def verbCode : Verb → Nat
  | .identify => 0x01
  | .readStatus => 0x02
  | .setMask => 0x03
  | .writeTable => 0x04
  | .readTable => 0x05
  | .selectGrade => 0x06
  | .trim => 0x07
  | .setCeiling => 0x08
  | .readReel => 0x09
  | .checksum => 0x0A
  | .placeConfirm => 0x0B
  | .placeRefuse => 0x0C
  | .reset => 0x0D

/-- The verb a code names, if any (R185 step 2, R199). -/
def verbOf (code : Nat) : Option Verb :=
  match code with
  | 0x01 => some .identify
  | 0x02 => some .readStatus
  | 0x03 => some .setMask
  | 0x04 => some .writeTable
  | 0x05 => some .readTable
  | 0x06 => some .selectGrade
  | 0x07 => some .trim
  | 0x08 => some .setCeiling
  | 0x09 => some .readReel
  | 0x0A => some .checksum
  | 0x0B => some .placeConfirm
  | 0x0C => some .placeRefuse
  | 0x0D => some .reset
  | _ => none

/-- The body counts a verb takes (R188). -/
def lengthOk (v : Verb) (n : Nat) : Bool :=
  match v with
  | .identify => decide (n = 0)
  | .readStatus => decide (n = 0)
  | .setMask => decide (n = 1)
  | .writeTable => decide (3 ≤ n) && decide (n ≤ 62)
  | .readTable => decide (n = 3)
  | .selectGrade => decide (n = 1)
  | .trim => decide (n = 6)
  | .setCeiling => decide (n = 1)
  | .readReel => decide (n = 1)
  | .checksum => decide (n = 0)
  | .placeConfirm => decide (n = 1)
  | .placeRefuse => decide (n = 1)
  | .reset => decide (n = 0)

/-- Outcomes of a reply (R185). -/
inductive ReplyOutcome where
  | ok | badVerb | badLength | badIndex | locked | notPending
  deriving DecidableEq, Repr

/-- The outcome word of a reply (R185). -/
def outcomeWord : ReplyOutcome → Word
  | .ok => 0
  | .badVerb => 1
  | .badLength => 2
  | .badIndex => 3
  | .locked => 4
  | .notPending => 5

/-- A reply body of the outcome alone, the state unchanged. -/
def refuseWith (o : ReplyOutcome) (s : State) : List Word × State := ([outcomeWord o], s)

/-! ## Actions: the reply body and the state after the verb's own effect -/

/-- IDENTIFY (R188, R199). -/
def actIdentify (s : State) : List Word × State :=
  ([outcomeWord .ok, Config.partCode, Config.revision, fld s.link.lane.toNat 0], s)

/-- The words READ_STATUS returns after the outcome (R191, R199). -/
def statusReply (s : State) : List Word :=
  [ natWord (conditionWord s).toNat,
    fld (faultCode s.svc.faultKind) 24 ||| fld s.svc.faultCount 0,
    fld s.link.errors 16 ||| fld s.reels.refused 0,
    fld s.svc.stray 0,
    fld (bitsNat (causeBits s)) 1 ]

/-- What READ_STATUS clears (R191). -/
def clearStatus (s : State) : State :=
  { s with
    link := { s.link with errors := 0 }
    reels := { s.reels with refused := 0 }
    svc := { s.svc with summary := false, causes := noCauses, faultKind := .none, faultCount := 0, resetSeen := false,
                        stray := 0 } }

/-- READ_STATUS (R191). -/
def actReadStatus (s : State) : List Word × State := (outcomeWord .ok :: statusReply s, clearStatus s)

/-- SET_MASK (R188, R192). -/
def actSetMask (w : Word) (s : State) : List Word × State :=
  ([outcomeWord .ok], { s with svc := { s.svc with mask := w.setWidth 11 } })

/-- The grade lock bars a write to the programmed set (R138). -/
def gradeLocked (s : State) : Bool := decide (s.grade.sel = .programmed) && anyOccupied s

/-- WRITE_TABLE (R189). -/
def actWriteTable (id start : Nat) (values : List Word) (s : State) : List Word × State :=
  if id < 1 ∨ 6 < id ∨ tableLength id < start + values.length then refuseWith .badIndex s
  else if id = 4 ∧ gradeLocked s = true then refuseWith .locked s
  else ([outcomeWord .ok, natWord (clampedCount id start values)], writeTableWords id start values s)

/-- READ_TABLE (R190). -/
def actReadTable (id start count : Nat) (s : State) : List Word × State :=
  if id < 1 ∨ 7 < id ∨ count < 1 ∨ 61 < count ∨ tableLength id < start + count then refuseWith .badIndex s
  else (outcomeWord .ok :: readWords s id start count, s)

/-- SELECT_GRADE (R138). While a record is occupied every SELECT_GRADE is answered LOCKED, one that names the set already
selected too: R138's table and R34 say so, and R138's sentence that such a request is accepted is read of the case with no
record occupied (DESIGN CHOICE, log 24). -/
def actSelectGrade (w : Word) (s : State) : List Word × State :=
  if anyOccupied s then refuseWith .locked s
  else ([outcomeWord .ok], { s with grade := { s.grade with sel := if w = 0 then .fixed else .programmed } })

/-- A trim gain clamped (R154). -/
def trimGain (w : Word) : Nat := min 8191 w.toNat

/-- A trim offset clamped (R154). -/
def trimOffset (w : Word) : Int := clampInt (-4096) 4095 w.toInt

/-- TRIM with its gains and offsets (R154, R188). -/
def actTrim (g0 g1 g2 o0 o1 o2 : Word) (s : State) : List Word × State :=
  let n := flag (decide (8191 < g0.toNat)) + flag (decide (8191 < g1.toNat)) + flag (decide (8191 < g2.toNat)) +
    flag (decide (trimOffset o0 ≠ o0.toInt)) + flag (decide (trimOffset o1 ≠ o1.toInt)) +
    flag (decide (trimOffset o2 ≠ o2.toInt))
  ([outcomeWord .ok, natWord n],
    { s with grade := { s.grade with
        pendingTrim := ⟨⟨trimGain g0, trimGain g1, trimGain g2⟩, ⟨trimOffset o0, trimOffset o1, trimOffset o2⟩⟩
        written := true } })

/-- SET_CEILING (R85, R188). -/
def actSetCeiling (w : Word) (s : State) : List Word × State :=
  ([outcomeWord .ok, natWord (flag (decide (3 < w.toNat)))],
    { s with xport := transportCeiling (classOf w.toNat) (activeRec s).isSome s.xport })

/-- READ_REEL (R35, R36, R188). -/
def actReadReel (w : Word) (s : State) : List Word × State :=
  match w.toNat with
  | 0 => (outcomeWord .ok :: reelWords (s.reel 0), s)
  | 1 => (outcomeWord .ok :: reelWords (s.reel 1), s)
  | 2 => (outcomeWord .ok :: reelWords s.reels.last, s)
  | _ => refuseWith .badIndex s

/-- CHECKSUM (R140, R188). -/
def actChecksum (s : State) : List Word × State := ([outcomeWord .ok, natWord s.grade.progCheck.toNat], s)

/-- PLACE_CONFIRM (R174). -/
def actPlaceConfirm (w : Word) (s : State) : List Word × State :=
  match findPlacement s.shelf w.toNat with
  | none => refuseWith .notPending s
  | some p => ([outcomeWord .ok], handCount { s with shelf := confirmPlacement s.shelf p })

/-- The new disposition in the reply of PLACE_REFUSE (R175, R199). -/
def refusalWords (p : Placement) (bay : Option (Fin 64)) (why : Reason) : List Word :=
  [ fld p.id 24 ||| fld (if bay.isSome then 1 else 2) 20 ||| fld (reasonCode why) 16 |||
      fld (match bay with
        | some b => b.val
        | none => 0) 8 ||| fld (classCode p.cls) 1 ||| fld (flag p.hold) 0,
    p.reelId ]

/-- PLACE_REFUSE (R175, R176). -/
def actPlaceRefuse (w : Word) (s : State) : List Word × State :=
  match findPlacement s.shelf w.toNat with
  | none => refuseWith .notPending s
  | some p =>
    let f := refusePlacement s.shelf p
    let t := { s with shelf := f.1 }
    (outcomeWord .ok :: refusalWords p f.2.1 f.2.2, if f.2.1.isSome then t else handCount t)

/-- An action of a one-word body; any other body is answered BAD_LENGTH (R185 step 3). -/
def onOneWord (act : Word → State → List Word × State) (body : List Word) (s : State) : List Word × State :=
  match body with
  | [w] => act w s
  | _ => refuseWith .badLength s

/-- WRITE_TABLE's action on its body (R189). -/
def onTableWrite (body : List Word) (s : State) : List Word × State :=
  match body with
  | id :: start :: values => actWriteTable id.toNat start.toNat values s
  | _ => refuseWith .badLength s

/-- READ_TABLE's action on its body (R190). -/
def onTableRead (body : List Word) (s : State) : List Word × State :=
  match body with
  | [id, start, count] => actReadTable id.toNat start.toNat count.toNat s
  | _ => refuseWith .badLength s

/-- TRIM's action on its body (R154). -/
def onTrim (body : List Word) (s : State) : List Word × State :=
  match body with
  | [g0, g1, g2, o0, o1, o2] => actTrim g0 g1 g2 o0 o1 o2 s
  | _ => refuseWith .badLength s

/-- The action of a verb on a body of the length it takes (R185 step 4, R188). RESET acts by `runReset`, not here. -/
def verbAction (v : Verb) (body : List Word) (s : State) : List Word × State :=
  match v with
  | .identify => actIdentify s
  | .readStatus => actReadStatus s
  | .setMask => onOneWord actSetMask body s
  | .writeTable => onTableWrite body s
  | .readTable => onTableRead body s
  | .selectGrade => onOneWord actSelectGrade body s
  | .trim => onTrim body s
  | .setCeiling => onOneWord actSetCeiling body s
  | .readReel => onOneWord actReadReel body s
  | .checksum => actChecksum s
  | .placeConfirm => onOneWord actPlaceConfirm body s
  | .placeRefuse => onOneWord actPlaceRefuse body s
  | .reset => refuseWith .badLength s

/-! ## Judgement (R185) -/

/-- A reply position is free (R186). -/
def replyFree (s : State) : Bool := decide ((s.svc.queue.filter fun m => !m.notice).length < Config.replyPositions)

/-- A reply queued in a reply position (R185, R186). -/
def queueReply (code : Nat) (tag : Byte) (body : List Word) (s : State) : State :=
  { s with svc := { s.svc with queue := s.svc.queue ++ [⟨false, replyWords code tag body⟩] } }

/-- The framing after a message is complete: WAITING with the buffer empty, no timeout count, EXPECT_FIRST (R181, R184). -/
def endFraming (s : State) : State :=
  { s with svc := { s.svc with framing := .waiting, pair := .expectFirst } }

/-- The end of a verb's event. READ_STATUS's clearing of RESET_SEEN sets nothing (R191, R192). -/
def settleVerb (v : Verb) (before after : State) : State :=
  if v = .readStatus then after else settle before after

/-- The RESET verb: every block's RESET effects and the reply (R194). -/
def runReset (tag : Byte) (s : State) : State :=
  resetBlocks (replyWords (verbCode .reset) tag [outcomeWord .ok]) s

/-- A complete message of a known verb judged in the order of R185 and executed. -/
def runVerb (v : Verb) (tag : Byte) (body : List Word) (s : State) : State :=
  let s0 := endFraming s
  if v = .reset ∧ body = [] then runReset tag s0
  else if !replyFree s0 then recordFault .replyFull s0
  else if lengthOk v body.length then
    settleVerb v s0 (queueReply (verbCode v) tag (verbAction v body s0).1 (verbAction v body s0).2)
  else queueReply (verbCode v) tag [outcomeWord .badLength] s0

/-- A complete message whose verb is no request verb: REPLY_FULL or BAD_VERB (R185). -/
def runUnknown (code : Nat) (tag : Byte) (s : State) : State :=
  let s0 := endFraming s
  if !replyFree s0 then recordFault .replyFull s0 else queueReply code tag [outcomeWord .badVerb] s0

/-- A complete message: its start word's verb and tag, and its body (R185, R199). -/
def runMessage (start : Word) (body : List Word) (s : State) : State :=
  match verbOf (bitsOf start 23 16) with
  | some v => runVerb v (BitVec.ofNat 8 (bitsOf start 7 0)) body s
  | none => runUnknown (bitsOf start 23 16) (BitVec.ofNat 8 (bitsOf start 7 0)) s

/-! ## The verb commands: a complete message of the verb (log 10) -/

/-- IDENTIFY (R188). -/
def execIdentify (tag : Byte) (body : List Word) (s : State) : Host.Outcome State Fault Refusal :=
  whilePowered (runVerb .identify tag body) s

/-- READ_STATUS (R191). -/
def execReadStatus (tag : Byte) (body : List Word) (s : State) : Host.Outcome State Fault Refusal :=
  whilePowered (runVerb .readStatus tag body) s

/-- SET_MASK (R192). -/
def execSetMask (tag : Byte) (body : List Word) (s : State) : Host.Outcome State Fault Refusal :=
  whilePowered (runVerb .setMask tag body) s

/-- WRITE_TABLE (R189). -/
def execWriteTable (tag : Byte) (body : List Word) (s : State) : Host.Outcome State Fault Refusal :=
  whilePowered (runVerb .writeTable tag body) s

/-- READ_TABLE (R190). -/
def execReadTable (tag : Byte) (body : List Word) (s : State) : Host.Outcome State Fault Refusal :=
  whilePowered (runVerb .readTable tag body) s

/-- SELECT_GRADE (R138). -/
def execSelectGrade (tag : Byte) (body : List Word) (s : State) : Host.Outcome State Fault Refusal :=
  whilePowered (runVerb .selectGrade tag body) s

/-- TRIM (R154). -/
def execTrim (tag : Byte) (body : List Word) (s : State) : Host.Outcome State Fault Refusal :=
  whilePowered (runVerb .trim tag body) s

/-- SET_CEILING (R85). -/
def execSetCeiling (tag : Byte) (body : List Word) (s : State) : Host.Outcome State Fault Refusal :=
  whilePowered (runVerb .setCeiling tag body) s

/-- READ_REEL (R36). -/
def execReadReel (tag : Byte) (body : List Word) (s : State) : Host.Outcome State Fault Refusal :=
  whilePowered (runVerb .readReel tag body) s

/-- CHECKSUM (R140). -/
def execChecksum (tag : Byte) (body : List Word) (s : State) : Host.Outcome State Fault Refusal :=
  whilePowered (runVerb .checksum tag body) s

/-- PLACE_CONFIRM (R174). -/
def execPlaceConfirm (tag : Byte) (body : List Word) (s : State) : Host.Outcome State Fault Refusal :=
  whilePowered (runVerb .placeConfirm tag body) s

/-- PLACE_REFUSE (R175). -/
def execPlaceRefuse (tag : Byte) (body : List Word) (s : State) : Host.Outcome State Fault Refusal :=
  whilePowered (runVerb .placeRefuse tag body) s

/-- RESET (R194). -/
def execReset (tag : Byte) (body : List Word) (s : State) : Host.Outcome State Fault Refusal :=
  whilePowered (runVerb .reset tag body) s

end Sys2Proof.Machine
end

