-- ==== Sys2Proof/Machine/IngestCells.lean ====
section
/-! DEFINITION. The ingest port: words and framing (R181 to R184), and the meanings of SERVICE_CELL, DROPPED_CELL, TIMEOUT and
INGEST_OUTGOING_CELL. -/
namespace Sys2Proof.Machine

/-- A start word: the marker in its top byte and a body count of 0 to 62 (R184). -/
def isStart (w : Word) : Bool := decide (bitsOf w 31 24 = Config.marker) && decide (bitsOf w 15 8 ≤ Config.maxBody)

/-- The framing state set. -/
def setFraming (f : Framing) (s : State) : State := { s with svc := { s.svc with framing := f } }

/-- The pair state set. -/
def setPair (p : PairState) (s : State) : State := { s with svc := { s.svc with pair := p } }

/-- An accepted word taken according to the framing state (R184). -/
def acceptWord (w : Word) (s : State) : State :=
  match s.svc.framing with
  | .waiting =>
    if isStart w then
      if bitsOf w 15 8 = 0 then runMessage w [] s else setFraming (.collecting [w] (bitsOf w 15 8) 0) s
    else { s with svc := { s.svc with stray := satAdd 65535 s.svc.stray 1 } }
  | .collecting buffer due _ =>
    if due ≤ 1 then runMessage (buffer.headD 0) (buffer.tail ++ [w]) s
    else setFraming (.collecting (buffer ++ [w]) (due - 1) 0) s

/-- A fault that discards any open message and the first copy (R182). -/
def faultDiscard (k : FaultKind) (s : State) : State :=
  recordFault k (setPair .expectFirst (setFraming .waiting s))

/-- TIMEOUT: the count of an open message has reached 4096 (R183). -/
def timeoutStep (s : State) : State :=
  match s.svc.framing with
  | .waiting => s
  | .collecting _ _ t => if Config.timeoutLimit ≤ t then faultDiscard .timeout s else s

/-- An ingest cell that does not complete the acceptance of a word counts toward the timeout of an open message (R183). -/
def countCell (s : State) : State :=
  match s.svc.framing with
  | .waiting => s
  | .collecting b d t => timeoutStep (setFraming (.collecting b d (t + 1)) s)

/-- One service slot: a word with slot-valid set, or an empty slot (R181). A slot that faults in HAVE_FIRST discards the
message before its cell is counted, so that at a timeout count of 4095 the fault is ORPHAN or MISMATCH alone (R182 before
R183: DESIGN CHOICE, log 26). -/
def takeSlot (slot : Option Word) (s : State) : State :=
  match s.svc.pair, slot with
  | .expectFirst, some w => countCell (setPair (.haveFirst w) s)
  | .expectFirst, none => countCell s
  | .haveFirst f, some w =>
    if w = f then acceptWord f (setPair .expectFirst s) else faultDiscard .mismatch s
  | .haveFirst _, none => faultDiscard .orphan s

/-- The pause state set (R16). -/
def setPause (p : Bool) (s : State) : State := settle s { s with link := { s.link with pause := p } }

/-- The link error counter credited (R3). -/
def creditLinkError (s : State) : State := { s with link := { s.link with errors := satAdd 65535 s.link.errors 1 } }

/-- An ingest-port incoming cell: its service slot first, then its PAUSE flag (R16; log 11). -/
def execServiceCell (pause valid : Bool) (word : Word) (s : State) : Host.Outcome State Fault Refusal :=
  whilePowered (fun s => setPause pause (takeSlot (if valid then some word else none) s)) s

/-- A dropped cell: credited, and on the ingest port an empty service slot (R2, R3, R16). -/
def execDroppedCell (port : Port) (s : State) : Host.Outcome State Fault Refusal :=
  whilePowered (fun s =>
    match port with
    | .scan => creditLinkError s
    | .ingest => takeSlot none (creditLinkError s)) s

/-- TIMEOUT as an event of its own (R183; log 12). -/
def execTimeout (s : State) : Host.Outcome State Fault Refusal := whilePowered timeoutStep s

/-- An ingest-port outgoing cell: the cell under way completes, the next is composed, and, where its sending is over
before the next command, completes too (R17; log 7). -/
def execIngestOutgoingCell (sending : Sending) (s : State) : Host.Outcome State Fault Refusal :=
  whilePowered (fun s =>
    match sending with
    | .underWay => composeCell (completeCell s)
    | .whole => completeCell (composeCell (completeCell s))) s

end Sys2Proof.Machine
end

