-- ==== Sys2Proof/Machine/ScanCells.lean ====
section
/-! DEFINITION. The scan port: the meanings of the arriving cells (R4 to R14) and of DIRECTIVE_CELL (R15). -/
namespace Sys2Proof.Machine

/-- IDLE_CELL does nothing in any receive state (R10). -/
def execIdleCell (s : State) : Host.Outcome State Fault Refusal := whilePowered (fun s => s) s

/-- REEL_OPEN (R10, R23). -/
def execReelOpen (header : RawHeader) (s : State) : Host.Outcome State Fault Refusal :=
  whilePowered (fun s =>
    settle s (controlCell (.reelOpen (clampHeader header)) (takeReelOpen (clampHeader header)) s)) s

/-- FRAME_OPEN (R7). -/
def execFrameOpen (frameNo : Word) (step : Byte) (cls : SpeedClass) (s : State) : Host.Outcome State Fault Refusal :=
  whilePowered (fun s => settle s (checkHead (takeFrameOpen frameNo (clampStep step) cls (cutShort s)))) s

/-- LINE (R8, R12). -/
def execLine (pixels : List Pixel) (s : State) : Host.Outcome State Fault Refusal :=
  whilePowered (fun s => settle s (takeLine pixels s)) s

/-- FRAME_CLOSE (R9). -/
def execFrameClose (s : State) : Host.Outcome State Fault Refusal :=
  whilePowered (fun s => settle s (takeFrameClose s)) s

/-- SPLICE (R10). -/
def execSplice (s : State) : Host.Outcome State Fault Refusal :=
  whilePowered (fun s => settle s (controlCell .splice takeSplice s)) s

/-- REEL_CLOSE (R10, R27). -/
def execReelClose (s : State) : Host.Outcome State Fault Refusal :=
  whilePowered (fun s => settle s (controlCell .reelClose takeReelClose s)) s

/-- DIRECTIVE_CELL: the scan port's outgoing cell carries the directive as it stands (R15). -/
def execDirectiveCell (s : State) : Host.Outcome State Fault Refusal :=
  whilePowered (fun s => { s with link := { s.link with scanOut := some (directiveCellOf s.xport) } }) s

end Sys2Proof.Machine
end

