-- ==== Sys2Proof/Machine/Dispatch.lean ====
section
/-! DEFINITION. One arm per command: what it does to everything but the queue. -/
namespace Sys2Proof.Machine

def exec (i : Instr) (s : State) : Host.Outcome State Fault Refusal :=
  match i with
  | .powerOn lane => Sys2Proof.Machine.execPowerOn lane s
  | .idleCell => Sys2Proof.Machine.execIdleCell s
  | .reelOpen header => Sys2Proof.Machine.execReelOpen header s
  | .frameOpen frameNo step cls => Sys2Proof.Machine.execFrameOpen frameNo step cls s
  | .line pixels => Sys2Proof.Machine.execLine pixels s
  | .frameClose => Sys2Proof.Machine.execFrameClose s
  | .splice => Sys2Proof.Machine.execSplice s
  | .reelClose => Sys2Proof.Machine.execReelClose s
  | .droppedCell port => Sys2Proof.Machine.execDroppedCell port s
  | .serviceCell pause valid word => Sys2Proof.Machine.execServiceCell pause valid word s
  | .directiveCell => Sys2Proof.Machine.execDirectiveCell s
  | .ingestOutgoingCell sending => Sys2Proof.Machine.execIngestOutgoingCell sending s
  | .timeout => Sys2Proof.Machine.execTimeout s
  | .identify tag body => Sys2Proof.Machine.execIdentify tag body s
  | .readStatus tag body => Sys2Proof.Machine.execReadStatus tag body s
  | .setMask tag body => Sys2Proof.Machine.execSetMask tag body s
  | .writeTable tag body => Sys2Proof.Machine.execWriteTable tag body s
  | .readTable tag body => Sys2Proof.Machine.execReadTable tag body s
  | .selectGrade tag body => Sys2Proof.Machine.execSelectGrade tag body s
  | .trim tag body => Sys2Proof.Machine.execTrim tag body s
  | .setCeiling tag body => Sys2Proof.Machine.execSetCeiling tag body s
  | .readReel tag body => Sys2Proof.Machine.execReadReel tag body s
  | .checksum tag body => Sys2Proof.Machine.execChecksum tag body s
  | .placeConfirm tag body => Sys2Proof.Machine.execPlaceConfirm tag body s
  | .placeRefuse tag body => Sys2Proof.Machine.execPlaceRefuse tag body s
  | .reset tag body => Sys2Proof.Machine.execReset tag body s
  | .emissionStart => Sys2Proof.Machine.execEmissionStart s
  | .emissionEnd => Sys2Proof.Machine.execEmissionEnd s
  | .enterDisposing => Sys2Proof.Machine.execEnterDisposing s
  | .dispositionNotice => Sys2Proof.Machine.execDispositionNotice s
  | .acqTimeout => Sys2Proof.Machine.execAcqTimeout s
  | .exposureAdoption => Sys2Proof.Machine.execExposureAdoption s
  | .trackRetire => Sys2Proof.Machine.execTrackRetire s
  | .nporFall => Sys2Proof.Machine.execNporFall s

end Sys2Proof.Machine
end

