-- ==== Sys2Proof/Safety.lean ====
section
/-! DEFINITION. What a sound state of the TN412 is: the invariants of the whole part that its manual states in prose. Each is
kept by every command from every state that has it, and holds after power-on. -/
namespace Sys2Proof.Machine

/-- LOAD_HOLD is on exactly while the hysteresis flag is on or both records are occupied (R96). -/
def State.loadHoldSettled (s : State) : Prop := s.xport.loadHold = (s.xport.hyst || bothOccupied s)

/-- The load-hold hysteresis flag is on with 12 or more placements and off with 4 or fewer (R95, R96). -/
def State.hystFollowsCount (s : State) : Prop :=
  (Config.holdOn ≤ s.shelf.placements.length → s.xport.hyst = true) ∧
  (s.shelf.placements.length ≤ Config.holdOff → s.xport.hyst = false)

/-- The speed class is never faster than the ceiling (R89). -/
def State.withinCeiling (s : State) : Prop := rank s.xport.ceiling ≤ rank s.xport.cls

/-- The part-wide counters that READ_STATUS returns lie in their ranges (R3, R26, R184, R193). -/
def State.countersInRange (s : State) : Prop :=
  s.link.errors ≤ 65535 ∧ s.reels.refused ≤ 65535 ∧ s.svc.stray ≤ 65535 ∧ s.svc.faultCount ≤ 255

/-- The reply queue holds at most three replies and at most one notice (R186). -/
def State.queueInRange (s : State) : Prop :=
  (s.svc.queue.filter fun m => !m.notice).length ≤ Config.replyPositions ∧
  (s.svc.queue.filter fun m => m.notice).length ≤ 1

/-- The placement list, the track list, the control entries and every region table lie in their limits (R43, R102, R109,
R170). -/
def State.listsInRange (s : State) : Prop :=
  s.shelf.placements.length ≤ Config.maxPlacements ∧ s.defect.tracks.length ≤ Config.maxTracks ∧
  (s.store.list.filter isControl).length ≤ Config.maxControls ∧
  ∀ k : Fin 4, (s.slot k).regions.length ≤ Config.maxRegions

/-- An open message has its start word in the buffer, at least one body word due, at most 63 words in all, and a timeout
count below 4096 (R183, R184). -/
def State.framingInRange (s : State) : Prop :=
  match s.svc.framing with
  | .waiting => True
  | .collecting buffer due t =>
    1 ≤ buffer.length ∧ 1 ≤ due ∧ buffer.length + due ≤ Config.maxBody + 1 ∧ t < Config.timeoutLimit

/-- At most one record is ACTIVE (R21). -/
def State.oneActive (s : State) : Prop := ¬((s.reel 0).isActive = true ∧ (s.reel 1).isActive = true)

/-- Exactly the DISPOSING records wait for the notice position, each once, and one waits only while the position is
taken (R30). -/
def State.waitingServed (s : State) : Prop :=
  s.reels.waiting.Nodup ∧ (∀ r : Fin 2, r ∈ s.reels.waiting ↔ (s.reel r).state = .disposing) ∧
  (s.reels.waiting ≠ [] → noticeFree s = false)

/-- The slot of the emission under way, if there is one. -/
def emittingSlot (s : State) : Option (Fin 4) := s.store.emission.map (·.slot)

/-- The FILLING slot is the one the link unit fills, and the EMITTING slot the one whose emission is under way; so at most
one slot is FILLING and at most one EMITTING (R6, R39, R46). -/
def State.slotsNamed (s : State) : Prop :=
  ∀ k : Fin 4, ((s.slot k).state = .filling ↔ s.link.rx = .filling k) ∧
    ((s.slot k).state = .emitting ↔ emittingSlot s = some k)

/-- A control entry being sent stands at the head of the emission list (R48). -/
def State.controlAtHead (s : State) : Prop :=
  ∀ f, s.link.inFlight = some f → f.part = .control → ∃ e rest, s.store.list = e :: rest ∧ isControl e = true

/-- The frame entries of the emission list are exactly the FILLING, CLOSED and EMITTING slots, each named once (R43). -/
def State.listNamesFrames (s : State) : Prop :=
  ∀ k : Fin 4, s.store.list.count (.frame k) = flag (inStore (s.slot k))

/-- Every frame of an occupied record is accounted for: opened is emitted plus dropped plus discarded plus the frames still
in the store, while `frames_opened` has not saturated; a FREE or DISPOSING record has no frame in the store (R28, R33). -/
def State.framesConserved (s : State) : Prop :=
  ∀ r : Fin 2,
    (((s.reel r).state = .free ∨ (s.reel r).state = .disposing) → storeCount s r = 0) ∧
    ((s.reel r).occupied = true → (s.reel r).counters.opened < Config.counterMax →
      (s.reel r).counters.opened = (s.reel r).counters.emitted + (s.reel r).counters.dropped +
        (s.reel r).counters.discarded + storeCount s r)

/-- The open treated frame belongs to the ACTIVE record (R7, R13). -/
def State.fillingIsActive (s : State) : Prop :=
  ∀ k r, (s.slot k).state = .filling → (s.slot k).tag = some r → (s.reel r).isActive = true

/-- The frame bookkeeping of the part: slots, emission list, records and the frame counters agree. -/
def State.framesAccounted (s : State) : Prop :=
  s.slotsNamed ∧ s.controlAtHead ∧ s.listNamesFrames ∧ s.oneActive ∧ s.fillingIsActive ∧ s.framesConserved

/-- Placement ids lie in 1 to 255, and no two placements share an id or a reel id (R170, R171). -/
def State.placementsApart (s : State) : Prop :=
  s.shelf.placements.length ≤ Config.maxPlacements ∧ (1 ≤ s.shelf.nextId ∧ s.shelf.nextId ≤ 255) ∧
  (∀ p ∈ s.shelf.placements, 1 ≤ p.id ∧ p.id ≤ 255) ∧
  s.shelf.placements.Pairwise (fun p q => p.id ≠ q.id ∧ p.reelId ≠ q.reelId)

/-- Two tracks have overlapping spans. -/
def tracksOverlap (t u : Track) : Prop := t.c0 ≤ u.c1 ∧ u.c0 ≤ t.c1

/-- At most 16 tracks, no two of them with overlapping spans (R109). -/
def State.tracksApart (s : State) : Prop :=
  s.defect.tracks.length ≤ Config.maxTracks ∧ s.defect.tracks.Pairwise fun t u => ¬tracksOverlap t u

/-- Every value lies in the range of its place. -/
def inRanges (values : List Nat) (ranges : List (Nat × Nat)) : Prop :=
  ∀ i : Nat, ∀ v r, values[i]? = some v → ranges[i]? = some r → r.1 ≤ v ∧ v ≤ r.2

/-- A policy entry holds a field code to 21 and a target class code to 4; code 0 stands only before the first write (R158,
R200). Its operand is 16 bits wide by its type. -/
def PolicyEntry.inRange (e : PolicyEntry) : Prop := e.field ≤ 21 ∧ e.target ≤ 4

/-- A bay holds a capacity and an occupied count to 4095 (R165). -/
def Bay.inRange (b : Bay) : Prop := b.capacity ≤ 4095 ∧ b.occupied ≤ 4095

/-- Tables 1 to 6 hold values of their ranges (R58, R84, R98, R135, R158, R165). -/
def State.tablesInRange (s : State) : Prop :=
  inRanges (regList s.reg.table) regRanges ∧ inRanges (transportList s.xport.table) transportRanges ∧
  inRanges (defectList s.defect.table) defectRanges ∧
  (∀ i : Fin 223, (gradeRange i).1 ≤ s.grade.prog.get i ∧ s.grade.prog.get i ≤ (gradeRange i).2) ∧
  (∀ e : Fin 24, (s.shelf.policy.get e).inRange) ∧ ∀ b : Fin 64, (s.shelf.bays.get b).inRange

/-- The stored checksum is the checksum of the programmed set (R140). -/
def State.checksumCurrent (s : State) : Prop := s.grade.progCheck = gradeChecksum s.grade.prog.toList

/-! ## Terms of the statements -/

/-- The state in which a message of verb code `code` has ended and its reply is queued, nothing else having changed
(R185). -/
def State.replied (s : State) (code : Nat) (tag : Byte) (body : List Word) : State :=
  { s with svc := { s.svc with
      framing := .waiting, pair := .expectFirst,
      queue := s.svc.queue ++ [⟨false, replyWords code tag body⟩] } }

/-- The same for a message of verb `v`. -/
def State.answered (s : State) (v : Verb) (tag : Byte) (body : List Word) : State := s.replied (verbCode v) tag body

/-- The word the transmit side has due: a word left under way by a RESET, then the word of the message at the head of the
queue whose copies are being sent (R186, R194). -/
def slotDue (s : State) : Option Word :=
  match s.svc.leftover with
  | some w => some w
  | none => s.svc.queue.head?.bind fun m => m.words[s.svc.copies / 2]?

/-- A record's fields lie in the fields of the words that carry it (R5, R24, R32, R73, R140, R165, R171). -/
def ReelRecord.fitsItsFields (r : ReelRecord) : Prop :=
  r.header.acid ≤ 3 ∧ r.header.holes ≤ 8 ∧ r.header.step ≤ 31 ∧ r.header.lines ≤ 3120 ∧ r.header.pixels ≤ 4096 ∧
  r.placementId ≤ 255 ∧ r.bay ≤ 63 ∧ r.reelPitch < 2 ^ 32 ∧ r.maxGain ≤ 65535 ∧
  (∀ v, r.reelShrinkage = some v → v.natAbs < 2 ^ 31) ∧ (∀ v, r.peakShrinkage = some v → v.natAbs < 2 ^ 31) ∧
  ∀ n ∈ [r.counters.opened, r.counters.emitted, r.counters.dropped, r.counters.discarded, r.counters.held,
    r.counters.creep, r.counters.splices, r.counters.tearRuns, r.counters.scratches, r.counters.repaired,
    r.counters.unrepaired, r.counters.lost, r.counters.partials, r.counters.trims], n < 2 ^ 32

/-- The number of a class, an outcome and a reason in a word, at bits `c`, `o` and `n` up (R199). -/
def endNumber (c o n : Nat) (r : ReelRecord) : Nat :=
  (match r.finalClass with
    | .none => 0
    | .classA => 1
    | .classB => 2
    | .classC => 3
    | .classD => 4
    | .classE => 5) * 2 ^ c +
  (match r.outcome with
    | .none => 0
    | .placed => 1
    | .unplaced => 2
    | .rescan => 3) * 2 ^ o +
  (match r.reason with
    | .none => 0
    | .duplicate => 1
    | .listFull => 2
    | .noBay => 3
    | .refusedTwice => 4) * 2 ^ n

/-- A word reads as a shrinkage: the signed value, or 0x80000000 for UNKNOWN (R199). -/
def readsShrinkage (v : Option Int) (w : Word) : Prop :=
  (v = none → w.toNat = 0x80000000) ∧ ∀ x, v = some x → w.toInt = x

/-- The words carry the disposition notice of a record, start word included, field by field (R173, R199). -/
def noticeLayout (lane : BitVec 4) (r : ReelRecord) (words : List Word) : Prop :=
  ∃ a b, words = [0xC6C00300, r.header.reelId, a, b] ∧
    a.toNat = r.placementId * 2 ^ 24 + r.bay * 2 ^ 16 + lane.toNat * 2 ^ 12 + endNumber 0 8 4 r ∧
    b.toNat = (if r.rescan then 2 else 0) + (if r.hold then 1 else 0)

/-- The words carry a record as words 2 to 24 of a READ_REEL reply do, field by field (R199). -/
def reelLayout (r : ReelRecord) (words : List Word) : Prop :=
  ∃ w2 w4 w5 w6 w7 w8 w9 w10 counts,
    words = [w2, r.header.reelId, w4, w5, w6, w7, w8, w9, w10] ++ counts ∧
    w2.toNat = (match r.state with
        | .free => 0 * 2 ^ 28 + 15 * 2 ^ 24
        | .active .acquiring => 1 * 2 ^ 28 + 0 * 2 ^ 24
        | .active .lockedCollecting => 1 * 2 ^ 28 + 1 * 2 ^ 24
        | .active .locked => 1 * 2 ^ 28 + 2 * 2 ^ 24
        | .active .failed => 1 * 2 ^ 28 + 3 * 2 ^ 24
        | .draining => 2 * 2 ^ 28 + 15 * 2 ^ 24
        | .disposing => 3 * 2 ^ 28 + 15 * 2 ^ 24) +
      (match r.acqOutcome with
        | .none => 0
        | .locked => 1
        | .failed => 2) * 2 ^ 20 + endNumber 16 12 8 r +
      (if r.gradeSel = .programmed then 8 else 0) + (if r.rescan then 4 else 0) + (if r.hold then 2 else 0) +
      (if r.closeMissing then 1 else 0) ∧
    w4.toNat = (match r.header.base with
        | .nitrate => 0
        | .acetate => 1
        | .polyester => 2
        | .unknown => 3) * 2 ^ 30 + r.header.acid * 2 ^ 16 + r.header.holes * 2 ^ 8 + r.header.step ∧
    w5.toNat = r.header.lines * 2 ^ 16 + r.header.pixels ∧
    w6.toNat = r.placementId * 2 ^ 24 + r.bay * 2 ^ 16 + r.gradeCheck.toNat ∧
    w7.toNat = r.reelPitch ∧ readsShrinkage r.reelShrinkage w8 ∧ readsShrinkage r.peakShrinkage w9 ∧
    w10.toNat = r.maxGain ∧
    counts.map (·.toNat) = [r.counters.opened, r.counters.emitted, r.counters.dropped, r.counters.discarded,
      r.counters.held, r.counters.creep, r.counters.splices, r.counters.tearRuns, r.counters.scratches,
      r.counters.repaired, r.counters.unrepaired, r.counters.lost, r.counters.partials, r.counters.trims]

/-- The payload of an outgoing ingest cell: its words after the header and the service word (R196). -/
def outgoingPayload (attention : Nat) (summary : Bool) (slot : Option Word) (lane : BitVec 4) (e : Emitted) : List Word :=
  (ingestCellOf attention summary slot lane e).words.drop 2

/-- The speed decision of a close, from transport control `x` to `y`, in the order of R87: tear override, acquisition pin, and
the three rows of R88; every class is made no faster than the ceiling (R89). -/
def speedDecided (tear acquiring held : Bool) (conf upConf : Nat) (x y : Transport) : Prop :=
  let down := satAdd 65535 x.heldRun 1
  let up := satAdd 65535 x.goodRun 1
  let stepsDown := (x.cls = .s0 ∧ x.table.d0 ≤ down) ∨ (x.cls = .s1 ∧ x.table.d1 ≤ down) ∨
    (x.cls = .s2 ∧ x.table.d2 ≤ down)
  let stepsUp := x.cls ≠ .s0 ∧ x.table.u ≤ up ∧ rank x.ceiling + 1 ≤ rank x.cls
  (tear = true → y.cls = .s3 ∧ y.heldRun = 0 ∧ y.goodRun = 0) ∧
  (tear = false → acquiring = true → rank y.cls = max 2 (rank x.ceiling) ∧ y.heldRun = 0 ∧ y.goodRun = 0) ∧
  (tear = false → acquiring = false → held = true → y.goodRun = 0 ∧
    (stepsDown → rank y.cls = max (rank x.cls + 1) (rank x.ceiling) ∧ y.heldRun = 0) ∧
    (¬stepsDown → y.cls = x.cls ∧ y.heldRun = down)) ∧
  (tear = false → acquiring = false → held = false → upConf ≤ conf → y.heldRun = 0 ∧
    (stepsUp → rank y.cls + 1 = rank x.cls ∧ y.goodRun = 0) ∧ (¬stepsUp → y.cls = x.cls ∧ y.goodRun = up)) ∧
  (tear = false → acquiring = false → held = false → conf < upConf → y.cls = x.cls ∧ y.heldRun = 0 ∧ y.goodRun = 0)

/-- A histogram clips: it counts a sample, and its bin 63 holds more than clip_pm per mille of them (R92). -/
def clips (clipPm : Nat) (h : Vector Nat 64) : Prop := 1 ≤ histCount h ∧ histCount h * clipPm < h[63] * 1000

/-- A frame calls for more light: some channel has a high point, and every high point lies below low_mark (R92). -/
def callsForLight (lowMark highPm : Nat) (hs : List (Vector Nat 64)) : Prop :=
  (∃ h ∈ hs, 1 ≤ histCount h) ∧ ∀ h ∈ hs, 1 ≤ histCount h → highPoint h highPm < lowMark

/-- The exposure decision of the close of a frame with histograms `hs`, from transport control `x` to `y`: a report that
matches is judged (R92), one that differs counts, and the fourth in a row is adopted (R93). -/
def exposureDecided (reported highPm : Nat) (hs : List (Vector Nat 64)) (x y : Transport) : Prop :=
  (reported = x.cmdStep → y.mismatch = 0 ∧ y.stale = false ∧
    ((∃ h ∈ hs, clips x.table.clipPm h) → y.cmdStep = x.cmdStep - 1) ∧
    ((∀ h ∈ hs, ¬clips x.table.clipPm h) → callsForLight x.table.lowMark highPm hs →
      y.cmdStep = min 31 (x.cmdStep + 1)) ∧
    ((∀ h ∈ hs, ¬clips x.table.clipPm h) → ¬callsForLight x.table.lowMark highPm hs → y.cmdStep = x.cmdStep)) ∧
  (reported ≠ x.cmdStep →
    (x.mismatch + 1 < 4 → y.cmdStep = x.cmdStep ∧ y.mismatch = x.mismatch + 1 ∧ y.stale = x.stale) ∧
    (4 ≤ x.mismatch + 1 → y.cmdStep = reported ∧ y.mismatch = 0 ∧ y.stale = true))

/-- The command of a verb (R188). -/
def verbCommand (v : Verb) (tag : Byte) (body : List Word) : Instr :=
  match v with
  | .identify => .identify tag body
  | .readStatus => .readStatus tag body
  | .setMask => .setMask tag body
  | .writeTable => .writeTable tag body
  | .readTable => .readTable tag body
  | .selectGrade => .selectGrade tag body
  | .trim => .trim tag body
  | .setCeiling => .setCeiling tag body
  | .readReel => .readReel tag body
  | .checksum => .checksum tag body
  | .placeConfirm => .placeConfirm tag body
  | .placeRefuse => .placeRefuse tag body
  | .reset => .reset tag body

/-- The state after a service fault that discards the open message and the first copy (R182, R183). -/
def State.faulted (s : State) (k : FaultKind) : State :=
  { s with svc := { s.svc with
      pair := .expectFirst, framing := .waiting, faultKind := k, faultCount := satAdd 255 s.svc.faultCount 1,
      causes := { s.svc.causes with serviceFault := true } } }

/-- The word a table holds and returns after `w` is written to its word `i` (R158, R165, R189, R200). -/
def heldWord (id i : Nat) (w : Word) : Word :=
  match id with
  | 1 => natWord (rangeClamp regRanges i w)
  | 2 => natWord (rangeClamp transportRanges i w)
  | 3 => natWord (rangeClamp defectRanges i w)
  | 4 => signedWord (gradeClamp i w)
  | 5 => ((policyWords (policyWrite i w endEntry))[i % 2]?).getD 0
  | 6 => ((bayWords (bayWrite i w offBay))[i % 2]?).getD 0
  | _ => 0

/-- No slot that is not FREE holds a frame of record `r`. -/
def noFrameOf (s : State) (r : Fin 2) : Prop := ∀ k, (s.slot k).state ≠ .free → (s.slot k).tag ≠ some r

/-- The link unit's, service engine's and pin's fields that no arriving frame cell changes. -/
def sameChannel (s t : State) : Prop :=
  t.pending = s.pending ∧ t.npor = s.npor ∧ t.link.errors = s.link.errors ∧ t.link.pause = s.link.pause ∧
  t.link.lane = s.link.lane ∧ t.link.aborted = s.link.aborted ∧ t.link.inFlight = s.link.inFlight ∧
  t.link.scanOut = s.link.scanOut ∧ t.link.ingestOut = s.link.ingestOut ∧ t.svc.framing = s.svc.framing ∧
  t.svc.pair = s.svc.pair ∧ t.svc.mask = s.svc.mask ∧ t.svc.copies = s.svc.copies ∧
  t.svc.faultKind = s.svc.faultKind ∧ t.svc.faultCount = s.svc.faultCount ∧ t.svc.stray = s.svc.stray ∧
  t.svc.resetSeen = s.svc.resetSeen

/-- The tables and the grade selection, which no cell of the scan port changes. -/
def sameTables (s t : State) : Prop :=
  t.reg.table = s.reg.table ∧ t.xport.table = s.xport.table ∧ t.defect.table = s.defect.table ∧
  t.grade.prog = s.grade.prog ∧ t.grade.progCheck = s.grade.progCheck ∧ t.grade.sel = s.grade.sel ∧
  t.shelf.policy = s.shelf.policy ∧ t.shelf.bays = s.shelf.bays

/-- What no frame cell changes in what the part reports: the last-disposed record, the records waiting for a notice, the
refused count and the queued messages. -/
def sameReports (s t : State) : Prop :=
  t.reels.last = s.reels.last ∧ t.reels.waiting = s.reels.waiting ∧ t.reels.refused = s.reels.refused ∧
  t.svc.queue = s.svc.queue ∧ t.svc.leftover = s.svc.leftover

/-- Transport control as it stands, but for LOAD_HOLD. -/
def sameTransport (s t : State) : Prop := t.xport = { s.xport with loadHold := t.xport.loadHold }

/-- The counters that neither a frame's opening nor an emission start nor a splice credits. -/
def sameFrameCounts (c d : Counters) : Prop :=
  d.emitted = c.emitted ∧ d.discarded = c.discarded ∧ d.held = c.held ∧ d.tearRuns = c.tearRuns ∧ d.lost = c.lost

/-- Every stored frame's lines, identity and defects stand, whatever its slot's state and link become. -/
def sameFrame (x y : Slot) : Prop :=
  y.lines = x.lines ∧ y.tag = x.tag ∧ y.frameNo = x.frameNo ∧ y.lineCount = x.lineCount ∧ y.regions = x.regions ∧
  y.dx = x.dx ∧ y.dy = x.dy ∧ y.regHeld = x.regHeld ∧ y.latch = x.latch

end Sys2Proof.Machine
end

