-- ==== Sys2Proof/Certificates/Slice0/Obligations.lean ====
section
/-! DEFINITION. The statements about the TN412 that the provers take. -/

open Sys2Proof Sys2Proof.Machine

/-! ## The queue, the pin and the resets -/

/-- A step runs the command at the front of the queue on the state with the queue's rest; on an empty queue the block
idles (both the model's choices, log 1 and 2). -/
def Obligations.StepRunsFrontCommand : Prop :=
  (∀ (c : Instr) (rest : List Instr) (s : State),
    step { s with pending := c :: rest } = exec c { s with pending := rest }) ∧
  (∀ s : State, s.pending = [] → step s = .next s)

/-- Every command, in every state, answers a next state and leaves the waiting commands as they are (log 16). -/
def Obligations.EveryCommandCompletesAndKeepsQueue : Prop :=
  ∀ (c : Instr) (s : State), ∃ t, exec c s = .next t ∧ t.pending = s.pending

/-- POWER_ON: every block takes the power-on values of its chapter and the straps are sampled; that it does so whatever stood
before, NPOR high included, is the model's choice (log 5). -/
def Obligations.PowerOnSetsEveryBlock : Prop :=
  ∀ (lane : BitVec 4) (s : State), ∃ t, exec (.powerOn lane) s = .next t ∧ t.pending = s.pending ∧ t.npor = true ∧
    t.link.lane = lane ∧ t.link.errors = 0 ∧ t.link.pause = false ∧ t.link.rx = .between ∧ t.link.aborted = [] ∧
    (∀ r, (t.reel r).state = .free ∧ (t.reel r).counters = zeroCounters ∧ (t.reel r).reelShrinkage = none ∧
      (t.reel r).peakShrinkage = none ∧ (t.reel r).finalClass = .none ∧ (t.reel r).outcome = .none) ∧
    (t.reels.last.state = .free ∧ t.reels.last.counters = zeroCounters ∧ t.reels.last.reelShrinkage = none ∧
      t.reels.last.peakShrinkage = none) ∧ t.reels.refused = 0 ∧
    (∀ k, (t.slot k).state = .free) ∧ t.store.list = [] ∧ t.store.spliceSeen = false ∧ t.store.emission = none ∧
    regList t.reg.table = [0, 255, 50000, 160, 80, 200, 32, 56, 64, 12480, 24, 96, 0] ∧
    t.reg.ref = none ∧ t.reg.goodDx = 0 ∧ t.reg.goodDy = 0 ∧ t.reg.sum = 0 ∧ t.reg.count = 0 ∧
    t.reg.sinceOpen = 0 ∧ t.reg.closeCopy = none ∧ t.reg.lastHeld = false ∧
    transportList t.xport.table = [6, 12, 24, 48, 40000, 2] ∧ t.xport.cls = .s0 ∧ t.xport.ceiling = .s0 ∧
    t.xport.heldRun = 0 ∧ t.xport.goodRun = 0 ∧ t.xport.cmdStep = 0 ∧ t.xport.mismatch = 0 ∧
    t.xport.stale = false ∧ t.xport.lastReported = none ∧ t.xport.hyst = false ∧ t.xport.loadHold = false ∧
    defectList t.defect.table = [12000, 2, 2400, 24, 512, 4, 3, 5, 32, 1048576] ∧ t.defect.tracks = [] ∧
    t.defect.tearMem = none ∧ t.repair = none ∧
    t.grade.prog = Vector.replicate 223 0 ∧ t.grade.progCheck = gradeChecksum (List.replicate 223 0) ∧
    t.grade.sel = .fixed ∧ t.grade.trim = ⟨⟨4096, 4096, 4096⟩, ⟨0, 0, 0⟩⟩ ∧
    t.grade.pendingTrim = ⟨⟨4096, 4096, 4096⟩, ⟨0, 0, 0⟩⟩ ∧ t.grade.written = false ∧
    t.grade.fade = ⟨⟨0, 16384, true⟩, ⟨0, 16384, true⟩, ⟨0, 16384, true⟩⟩ ∧
    tableWords t 5 = List.replicate 48 0 ∧ tableWords t 6 = List.replicate 128 0 ∧ t.shelf.placements = [] ∧
    t.shelf.nextId = 1 ∧
    t.svc.pair = .expectFirst ∧ t.svc.framing = .waiting ∧ t.svc.queue = [] ∧ t.svc.faultKind = .none ∧
    t.svc.faultCount = 0 ∧ t.svc.stray = 0 ∧ t.svc.mask = 0x400 ∧ t.svc.summary = true ∧
    conditionWord t = 0x400 ∧ attentionCode t = 7

/-- NPOR_FALL puts every block in its power-on state and leaves no aborted FRAME_CLOSE to send; while NPOR is low no command but
POWER_ON changes anything (the lane number and how commands meet a low NPOR are the model's choice, log 4). -/
def Obligations.NporFallAbandonsEverything : Prop :=
  (∀ s : State, ∃ t, exec .nporFall s = .next t ∧ t.pending = s.pending ∧ t.npor = false ∧ t.link.aborted = [] ∧
    t.link.inFlight = none ∧ t.store.emission = none ∧ t.svc.queue = [] ∧
    (∀ lane u, exec (.powerOn lane) s = .next u → t.link = { u.link with lane := 0 } ∧
      t.reels = u.reels ∧ t.store = u.store ∧ t.reg = u.reg ∧ t.xport = u.xport ∧ t.defect = u.defect ∧
      t.repair = u.repair ∧ t.grade = u.grade ∧ t.shelf = u.shelf ∧ t.svc = u.svc)) ∧
  (∀ (c : Instr) (s : State), s.npor = false → (∀ lane, c ≠ .powerOn lane) → c ≠ .nporFall → exec c s = .next s)

/-- The RESET verb: whatever the reply queue holds, every block applies its RESET effects, and only the RESET reply is
queued. The filling frame's defect state and histograms are cleared with its slot (no other content: log 25). A word whose
first copy has gone out is sent once more in the next outgoing cell (one left over from an earlier RESET too: log 18), and
the reply starts with the cell after it. -/
def Obligations.ResetAppliesEveryBlocksEffects : Prop :=
  ∀ (tag : Byte) (s : State), s.npor = true → ∃ t, exec (.reset tag []) s = .next t ∧ t.pending = s.pending ∧
    t.npor = true ∧
    t.link.errors = 0 ∧ t.link.pause = s.link.pause ∧ t.link.lane = s.link.lane ∧
    t.link.rx = (if s.link.rx = .between then .between else .ignoring) ∧
    t.link.scanOut = s.link.scanOut ∧ t.link.ingestOut = s.link.ingestOut ∧
    (s.store.emission = none → t.link.aborted = s.link.aborted) ∧
    (∀ f, t.link.inFlight = some f → f = ⟨.plain, false⟩) ∧
    (∀ r, t.reel r = { s.reel r with state := .free }) ∧ t.reels.last = s.reels.last ∧ t.reels.refused = 0 ∧
    t.reels.waiting = [] ∧
    (∀ k, (s.slot k).state = .filling → t.slot k = { s.slot k with
        state := .free, regions := [], defectOverflow := false, regionsLost := 0, hist := emptyHist }) ∧
    (∀ k, (s.slot k).state ≠ .filling → t.slot k = { s.slot k with state := .free }) ∧
    t.store.list = [] ∧ t.store.spliceSeen = false ∧ t.store.emission = none ∧
    t.reg.table = s.reg.table ∧ t.reg.hole = emptyHole ∧ t.reg.ref = none ∧ t.reg.goodDx = 0 ∧ t.reg.goodDy = 0 ∧
    t.reg.sum = 0 ∧ t.reg.count = 0 ∧ t.reg.sinceOpen = 0 ∧ t.reg.closeCopy = none ∧ t.reg.lastHeld = false ∧
    t.xport.table = s.xport.table ∧ t.xport.cls = .s0 ∧ t.xport.ceiling = .s0 ∧ t.xport.heldRun = 0 ∧
    t.xport.goodRun = 0 ∧ t.xport.cmdStep = s.xport.cmdStep ∧ t.xport.mismatch = 0 ∧ t.xport.stale = false ∧
    t.xport.lastReported = none ∧ t.xport.hyst = s.xport.hyst ∧ t.xport.loadHold = s.xport.hyst ∧
    t.defect.table = s.defect.table ∧ t.defect.tracks = [] ∧ t.defect.tearMem = none ∧ t.repair = none ∧
    t.grade.prog = s.grade.prog ∧ t.grade.progCheck = s.grade.progCheck ∧ t.grade.sel = .fixed ∧
    t.grade.trim = identityTrim ∧ t.grade.pendingTrim = identityTrim ∧ t.grade.written = false ∧
    t.grade.fade = rgbAll ⟨0, 16384, true⟩ ∧ t.shelf = s.shelf ∧
    t.svc.queue = [⟨false, replyWords 0x0D tag [0]⟩] ∧ t.svc.copies = 0 ∧ t.svc.pair = .expectFirst ∧
    t.svc.framing = .waiting ∧ t.svc.faultKind = .none ∧ t.svc.faultCount = 0 ∧ t.svc.stray = 0 ∧
    t.svc.mask = 0x400 ∧ t.svc.summary = true ∧ t.svc.resetSeen = true ∧
    t.svc.causes = ⟨false, false, false, false, false, true⟩ ∧
    (∀ w, s.svc.leftover = some w → t.svc.leftover = some w) ∧
    (s.svc.leftover = none → s.svc.copies % 2 = 1 → t.svc.leftover = slotDue s) ∧
    (s.svc.leftover = none → s.svc.copies % 2 = 0 → t.svc.leftover = none) ∧
    ∃ u, exec (.ingestOutgoingCell .whole) t = .next u ∧ u.svc.queue = t.svc.queue ∧ u.svc.leftover = none ∧
      (∀ w, t.svc.leftover = some w → (u.link.ingestOut.bind fun c => c.words[1]?) = some w ∧ u.svc.copies = 0) ∧
      (t.svc.leftover = none → (u.link.ingestOut.bind fun c => c.words[1]?) = some (startWord 0x8D 1 tag.toNat) ∧
        u.svc.copies = 1)

/-- A RESET during an emission, paused or not, hands on the frame's FRAME_CLOSE with ABORTED set, counts as planned, behind any
that an earlier RESET left waiting, unless that FRAME_CLOSE is already being sent (read as under way, log 9; when a composed
cell has been sent is an operand, log 7); the next outgoing cell carries the first one waiting, and IDLE in a pause. -/
def Obligations.ResetAbortsTheEmission : Prop :=
  ∀ (tag : Byte) (s : State) (e : Emission), s.npor = true → s.store.emission = some e →
    ∃ t u, exec (.reset tag []) s = .next t ∧ exec (.ingestOutgoingCell .whole) t = .next u ∧
      ((∀ f, s.link.inFlight = some f → f.part ≠ .frameClose) →
        t.link.aborted = s.link.aborted ++ [summaryOf s e.slot true]) ∧
      (∀ f, s.link.inFlight = some f → f.part = .frameClose → t.link.aborted = s.link.aborted) ∧
      (∀ a rest, t.link.aborted = a :: rest → s.link.pause = false → u.link.aborted = rest ∧
        u.link.ingestOut =
          some (ingestCellOf (attentionCode t) true (slotDue t) s.link.lane (.frameClose a))) ∧
      (s.link.pause = true → u.link.aborted = t.link.aborted ∧
        u.link.ingestOut = some (ingestCellOf (attentionCode t) true (slotDue t) s.link.lane .idle))

/-! ## The scan port -/

/-- A LINE that fits is stored as the next line of the open treated frame and seen by the three units, and changes nothing
else. A region extended on the line still meets the line's later segments (log 28). -/
def Obligations.LineIsStoredAndSeen : Prop :=
  ∀ (s : State) (k : Fin 4) (r : Fin 2) (px : List Pixel), s.npor = true → s.loadHoldSettled →
    s.link.rx = .filling k → (s.slot k).tag = some r → px.length = (s.reel r).header.pixels →
    (s.slot k).lineCount < (s.reel r).header.lines →
    ∃ t, exec (.line px) s = .next t ∧
      (∃ w, w = regionLine (s.slot k).latch (s.slot k).lineCount px
          (RegionWork.mk (s.slot k).regions (s.slot k).defectOverflow (s.slot k).regionsLost) ∧
        t.slot k = { s.slot k with
          lines := (s.slot k).lines ++ [px], lineCount := (s.slot k).lineCount + 1, regions := w.regions,
          defectOverflow := w.overflow, regionsLost := w.lost,
          hist := histLine (s.slot k).latch (s.slot k).lineCount px (s.slot k).hist }) ∧
      t.reg.hole = regLine (s.slot k).latch.reg (s.reel r).header.holes (s.reel r).header.lines
        (s.slot k).lineCount px s.reg.hole ∧
      t.reg = { s.reg with hole := t.reg.hole } ∧
      (∀ j, j ≠ k → t.slot j = s.slot j) ∧ t.npor = s.npor ∧ t.store.list = s.store.list ∧ t.store.spliceSeen = s.store.spliceSeen ∧
      t.store.emission = s.store.emission ∧ t.pending = s.pending ∧ t.link = s.link ∧ t.reels = s.reels ∧
      t.xport = s.xport ∧ t.defect = s.defect ∧ t.repair = s.repair ∧ t.grade = s.grade ∧ t.shelf = s.shelf ∧
      t.svc = s.svc

/-- A LINE of an untreated frame is stored as it came and seen by no unit; at 3120 lines it discards the frame without
credit or attention. -/
def Obligations.UntreatedLineIsStoredOrEndsTheFrame : Prop :=
  ∀ (s : State) (k : Fin 4) (px : List Pixel), s.npor = true → s.loadHoldSettled → s.link.rx = .filling k →
    (s.slot k).tag = none →
    ((s.slot k).lineCount < 3120 →
      ∃ t, exec (.line px) s = .next t ∧
        t.slot k = { s.slot k with lines := (s.slot k).lines ++ [px], lineCount := (s.slot k).lineCount + 1 } ∧
        (∀ j, j ≠ k → t.slot j = s.slot j) ∧ t.store.list = s.store.list ∧ t.reg = s.reg ∧ t.defect = s.defect ∧
        t.grade = s.grade ∧ t.link = s.link ∧ t.reels = s.reels ∧ t.xport = s.xport ∧ t.shelf = s.shelf ∧
        t.svc = s.svc) ∧
    (3120 ≤ (s.slot k).lineCount →
      ∃ t, exec (.line px) s = .next t ∧ (t.slot k).state = .free ∧ t.link.rx = .ignoring ∧
        Entry.frame k ∉ t.store.list ∧ t.svc.causes.linkFault = s.svc.causes.linkFault ∧
        t.svc.causes.frameLost = s.svc.causes.frameLost ∧
        (∀ r, (t.reel r).counters.discarded = (s.reel r).counters.discarded ∧
          (t.reel r).counters.dropped = (s.reel r).counters.dropped) ∧
        t.reg = s.reg ∧ t.defect = s.defect ∧ t.shelf = s.shelf ∧ sameChannel s t)

/-- A LINE of the wrong pixel count or one too many, and a FRAME_CLOSE after too few lines, discard the treated frame as a
LINK_FAULT, its defect state cleared (log 25). -/
def Obligations.WrongGeometryDiscardsTheFrame : Prop :=
  (∀ (s : State) (k : Fin 4) (r : Fin 2) (px : List Pixel), s.npor = true → s.link.rx = .filling k →
    (s.slot k).tag = some r → (s.reel r).isActive = true →
    (px.length ≠ (s.reel r).header.pixels ∨ (s.reel r).header.lines ≤ (s.slot k).lineCount) →
    ∃ t, exec (.line px) s = .next t ∧ (t.slot k).state = .free ∧ (t.slot k).lines = (s.slot k).lines ∧
      (t.slot k).regions = [] ∧ (t.slot k).defectOverflow = false ∧ (t.slot k).regionsLost = 0 ∧
      t.link.rx = .ignoring ∧ Entry.frame k ∉ t.store.list ∧ t.svc.causes.linkFault = true ∧
      (t.reel r).counters.discarded = credit32 (s.reel r).counters.discarded 1 ∧
      (t.reel r).counters.opened = (s.reel r).counters.opened ∧ (t.reel r).state = (s.reel r).state ∧
      t.reg = { s.reg with hole := emptyHole, ref := none, goodDx := 0, goodDy := 0 } ∧
      t.reel r = { s.reel r with counters := (t.reel r).counters } ∧
      (t.reel r).counters.emitted = (s.reel r).counters.emitted ∧
      (t.reel r).counters.dropped = (s.reel r).counters.dropped ∧
      t.defect = s.defect ∧ t.grade.fade = s.grade.fade ∧ t.shelf = s.shelf ∧ sameTransport s t ∧ sameReports s t ∧
      (∀ j, j ≠ k → (s.slot j).link = .pending k → (s.slot j).state ≠ .free → (t.slot j).link = .none) ∧
      sameTables s t ∧ sameChannel s t) ∧
  (∀ (s : State) (k : Fin 4) (r : Fin 2), s.npor = true → s.link.rx = .filling k → (s.slot k).tag = some r →
    (s.reel r).isActive = true → (s.slot k).lineCount ≠ (s.reel r).header.lines →
    ∃ t, exec .frameClose s = .next t ∧ t.link.rx = .between ∧ (t.slot k).state = .free ∧
      (t.slot k).regions = [] ∧ (t.slot k).defectOverflow = false ∧ (t.slot k).regionsLost = 0 ∧
      Entry.frame k ∉ t.store.list ∧ t.svc.causes.linkFault = true ∧
      (t.reel r).counters.discarded = credit32 (s.reel r).counters.discarded 1 ∧
      t.reg = { s.reg with hole := emptyHole, ref := none, goodDx := 0, goodDy := 0 } ∧ t.defect = s.defect ∧
      t.reel r = { s.reel r with counters := (t.reel r).counters } ∧ t.grade.fade = s.grade.fade ∧
      t.shelf = s.shelf ∧ sameTransport s t ∧ sameReports s t ∧ sameTables s t ∧ sameChannel s t)

/-- IDLE_CELL does nothing in any receive state; a LINE or a FRAME_CLOSE with no frame open, and a LINE of an ignored frame,
change nothing. -/
def Obligations.StrayCellsAreDisregarded : Prop :=
  (∀ s : State, exec .idleCell s = .next s) ∧
  (∀ (s : State) (px : List Pixel), s.npor = true → s.loadHoldSettled →
    ((s.link.rx = .between ∨ s.link.rx = .ignoring) → exec (.line px) s = .next s) ∧
    (s.link.rx = .between → exec .frameClose s = .next s) ∧
    (s.link.rx = .ignoring → exec .frameClose s = .next { s with link := { s.link with rx := .between } }))

/-- A FRAME_OPEN with no frame open takes the lowest-numbered FREE slot, sets up its record, latches the tables, enters the
emission list and credits the ACTIVE record. -/
def Obligations.FrameOpenTakesTheLowestFreeSlot : Prop :=
  ∀ (s : State) (k : Fin 4) (n : Word) (step : Byte) (cls : SpeedClass), s.npor = true → s.link.rx = .between →
    (s.slot k).state = .free → (∀ j < k, (s.slot j).state ≠ .free) →
    ∃ t, exec (.frameOpen n step cls) s = .next t ∧ t.link.rx = .filling k ∧
      (t.slot k).state = .filling ∧ (t.slot k).tag = activeRec s ∧ (t.slot k).frameNo = n ∧
      (t.slot k).repStep = min 31 step.toNat ∧ (t.slot k).repClass = cls ∧ (t.slot k).lineCount = 0 ∧
      (t.slot k).lines = [] ∧ (t.slot k).regions = [] ∧ (t.slot k).regionsLost = 0 ∧ (t.slot k).hist = emptyHist ∧
      (t.slot k).fade = ⟨⟨0, 16384⟩, ⟨0, 16384⟩, ⟨0, 16384⟩⟩ ∧ (t.slot k).dx = 0 ∧ (t.slot k).dy = 0 ∧
      (t.slot k).confidence = 0 ∧ (t.slot k).regHeld = false ∧ (t.slot k).shiftClamped = false ∧
      (t.slot k).latch = ⟨s.reg.table, s.defect.table, areaOf (setInForce s.grade)⟩ ∧
      (t.slot k).spliceBefore = (s.store.spliceSeen && (activeRec s).isSome) ∧
      (t.slot k).link = (if (activeRec s).isSome then .unsettled else .none) ∧
      t.store.list = s.store.list ++ [.frame k] ∧ t.store.spliceSeen = false ∧ t.reg = { s.reg with hole := emptyHole } ∧
      (∀ r, activeRec s = some r →
        (t.reel r).counters.opened = credit32 (s.reel r).counters.opened 1 ∧
        (t.reel r).counters.creep = credit32 (s.reel r).counters.creep (if cls = .s3 then 1 else 0) ∧
        (t.reel r).counters.dropped = credit32 (s.reel r).counters.dropped 0) ∧
      (∀ r, t.reel r = { s.reel r with counters := (t.reel r).counters } ∧
        sameFrameCounts (s.reel r).counters (t.reel r).counters) ∧
      (∀ r, activeRec s ≠ some r → (t.reel r).counters.opened = (s.reel r).counters.opened) ∧
      (∀ j, j ≠ k → sameFrame (s.slot j) (t.slot j)) ∧ t.defect = s.defect ∧ t.grade.fade = s.grade.fade ∧
      t.shelf = s.shelf ∧ t.svc.causes.frameLost = s.svc.causes.frameLost ∧ sameTransport s t ∧ sameReports s t ∧
      sameTables s t ∧ sameChannel s t

/-- A FRAME_OPEN that finds no slot FREE drops its frame: FRAME_LOST, the credits (its opening, its loss and, if it reports
S3, `creep_frames`), and nothing taken from the store. -/
def Obligations.FrameOpenWithoutASlotIsDropped : Prop :=
  ∀ (s : State) (n : Word) (step : Byte) (cls : SpeedClass), s.npor = true → s.link.rx = .between →
    (∀ k, (s.slot k).state ≠ .free) →
    ∃ t, exec (.frameOpen n step cls) s = .next t ∧ t.link.rx = .ignoring ∧ t.svc.causes.frameLost = true ∧
      t.store.list = s.store.list ∧ t.store.spliceSeen = false ∧ t.reg = s.reg ∧
      (∀ k, sameFrame (s.slot k) (t.slot k) ∧ (t.slot k).state ≠ .free ∧
        ((s.slot k).link = .unsettled → (t.slot k).link = .none)) ∧
      (∀ r, activeRec s = some r →
        (t.reel r).counters.opened = credit32 (s.reel r).counters.opened 1 ∧
        (t.reel r).counters.dropped = credit32 (s.reel r).counters.dropped 1 ∧
        (t.reel r).counters.creep = credit32 (s.reel r).counters.creep (if cls = .s3 then 1 else 0)) ∧
      (∀ r, t.reel r = { s.reel r with counters := (t.reel r).counters } ∧
        sameFrameCounts (s.reel r).counters (t.reel r).counters) ∧
      t.defect = s.defect ∧ t.grade.fade = s.grade.fade ∧ t.shelf = s.shelf ∧ sameTransport s t ∧ sameReports s t ∧
      sameTables s t ∧ sameChannel s t

/-- A FRAME_OPEN makes the CLOSED frame before it wait for it exactly when it is that frame's adjacent successor and was
granted a slot; otherwise that frame's link is NONE. -/
def Obligations.FrameOpenSettlesTheSuccessorLink : Prop :=
  ∀ (s : State) (j : Fin 4) (n : Word) (step : Byte) (cls : SpeedClass), s.npor = true → s.link.rx = .between →
    (s.slot j).state ≠ .free → (s.slot j).link = .unsettled →
    ∃ t, exec (.frameOpen n step cls) s = .next t ∧
      (∀ k r, freeSlotIdx s = some k → (s.slot j).tag = some r → activeRec s = some r →
        (s.slot j).frameNo.toNat + 1 = n.toNat → (t.slot j).link = .pending k) ∧
      ((freeSlotIdx s = none ∨ (s.slot j).tag = none ∨ (s.slot j).tag ≠ activeRec s ∨
        (s.slot j).frameNo.toNat + 1 ≠ n.toNat) → (t.slot j).link = .none)

/-- An open treated frame that a FRAME_OPEN or a control cell cuts short is discarded: LINK_FAULT, one credit to
`frames_discarded` (found in the last-disposed copy, where a REEL_OPEN disposes the reel at once), the slot free for the new
frame of a FRAME_OPEN; the tracks, the acquisition and the fade state do not see the frame. An untreated one is freed with
LINK_FAULT and no credit. -/
def Obligations.CutShortFrameIsDiscarded : Prop :=
  (∀ (s : State) (k : Fin 4) (r : Fin 2), s.npor = true → s.link.rx = .filling k → (s.slot k).tag = some r →
    (s.reel r).isActive = true →
    (∀ n step cls, ∃ t, exec (.frameOpen n step cls) s = .next t ∧ t.svc.causes.linkFault = true ∧
      (freeSlotIdx s = none → t.link.rx = .filling k) ∧
      (∀ j, freeSlotIdx s = some j → t.link.rx = .filling (min j k)) ∧
      (t.link.rx ≠ .filling k → (t.slot k).state = .free ∧ Entry.frame k ∉ t.store.list) ∧
      (t.reel r).counters.discarded = credit32 (s.reel r).counters.discarded 1 ∧ t.reg.ref = none ∧
      t.reg.count = s.reg.count ∧ t.defect = s.defect ∧ t.grade.fade = s.grade.fade ∧ sameChannel s t) ∧
    (∃ t, exec .splice s = .next t ∧ t.svc.causes.linkFault = true ∧ t.link.rx = .between ∧
      (t.slot k).state = .free ∧ Entry.frame k ∉ t.store.list ∧
      (t.reel r).counters.discarded = credit32 (s.reel r).counters.discarded 1 ∧ sameChannel s t) ∧
    (∃ t, exec .reelClose s = .next t ∧ t.svc.causes.linkFault = true ∧ t.link.rx = .between ∧
      (t.slot k).state = .free ∧ Entry.frame k ∉ t.store.list ∧
      (t.reel r).counters.discarded = credit32 (s.reel r).counters.discarded 1 ∧ sameChannel s t) ∧
    (∀ h, ∃ t, exec (.reelOpen h) s = .next t ∧ t.svc.causes.linkFault = true ∧ t.link.rx = .between ∧
      (t.slot k).state = .free ∧ Entry.frame k ∉ t.store.list ∧
      (activeRec s = some r →
        ((t.reel r).state = .draining ∨ (t.reel r).state = .disposing →
          (t.reel r).counters.discarded = credit32 (s.reel r).counters.discarded 1) ∧
        ((t.reel r).state ≠ .draining → (t.reel r).state ≠ .disposing →
          t.reels.last.counters.discarded = credit32 (s.reel r).counters.discarded 1)) ∧ sameChannel s t)) ∧
  (∀ (s : State) (k : Fin 4), s.npor = true → s.link.rx = .filling k → (s.slot k).tag = none →
    (∀ n step cls, ∃ t, exec (.frameOpen n step cls) s = .next t ∧ t.svc.causes.linkFault = true ∧
      (freeSlotIdx s = none → t.link.rx = .filling k) ∧
      (∀ j, freeSlotIdx s = some j → t.link.rx = .filling (min j k)) ∧
      (t.link.rx ≠ .filling k → (t.slot k).state = .free ∧ Entry.frame k ∉ t.store.list) ∧
      (∀ r, (t.reel r).counters.discarded = (s.reel r).counters.discarded ∧
        (t.reel r).counters.dropped = (s.reel r).counters.dropped) ∧
      t.reg = { s.reg with hole := t.reg.hole } ∧ t.defect = s.defect ∧ t.grade.fade = s.grade.fade ∧
      sameChannel s t) ∧
    (∃ t, exec .splice s = .next t ∧ t.svc.causes.linkFault = true ∧ t.link.rx = .between ∧
      (t.slot k).state = .free ∧ Entry.frame k ∉ t.store.list ∧
      (∀ r, (t.reel r).counters.discarded = (s.reel r).counters.discarded) ∧ sameChannel s t) ∧
    (∃ t, exec .reelClose s = .next t ∧ t.svc.causes.linkFault = true ∧ t.link.rx = .between ∧
      (t.slot k).state = .free ∧ Entry.frame k ∉ t.store.list ∧
      (∀ r, (t.reel r).counters.discarded = (s.reel r).counters.discarded) ∧ sameChannel s t) ∧
    (∀ h, ∃ t, exec (.reelOpen h) s = .next t ∧ t.svc.causes.linkFault = true ∧ t.link.rx = .between ∧
      (t.slot k).state = .free ∧ Entry.frame k ∉ t.store.list ∧
      (∀ r, (t.reel r).state ≠ .active .acquiring →
        (t.reel r).counters.discarded = (s.reel r).counters.discarded) ∧ sameChannel s t))

/-- A FRAME_CLOSE after all the lines of a treated frame: the three units write their results and make their credits, the
acquisition takes its step, the slot is CLOSED (or its emission has begun), the frame waiting for it is READY, and transport
control decides class and exposure step in the rows of R87, R88, R92 and R93. A FRAME_CLOSE of an untreated frame closes its
slot and writes nothing else. -/
def Obligations.FrameCloseWritesTheResults : Prop :=
  (∀ (s : State) (k : Fin 4) (r : Fin 2), s.npor = true → s.link.rx = .filling k → (s.slot k).tag = some r →
    (s.reel r).isActive = true → (s.slot k).lineCount = (s.reel r).header.lines →
    ∃ t, exec .frameClose s = .next t ∧ t.link.rx = .between ∧
      ((t.slot k).state = .closed ∨ (t.slot k).state = .emitting) ∧
      (∃ table used m, table = (s.slot k).latch.reg ∧
        used = (endRun table (s.reel r).header.holes (s.reel r).header.lines s.reg.hole).used ∧
        m = measure table (pitchInUse (s.reel r) table) (s.reel r).header.holes used s.reg ∧
        (t.slot k).dx = m.dx ∧ (t.slot k).dy = m.dy ∧ (t.slot k).shiftClamped = m.clamped ∧
        (t.slot k).confidence = used.length * 64 / (s.reel r).header.holes ∧
        (t.slot k).regHeld = frameHeld table used.length (s.reel r).header.holes ∧
        t.reg.lastHeld = (t.slot k).regHeld ∧ t.reg.ref = m.ref ∧ t.reg.goodDx = m.goodDx ∧ t.reg.goodDy = m.goodDy ∧
        (t.reel r).counters.held = credit32 (s.reel r).counters.held (if (t.slot k).regHeld then 1 else 0) ∧
        t.reg.sinceOpen = satAdd 65535 s.reg.sinceOpen 1 ∧
        t.reg.closeCopy = some ⟨table.acqMin, table.unshrunkPitch⟩ ∧
        (∀ p, m.sample = some p → collecting (s.reel r) = true →
          t.reg.sum = s.reg.sum + p ∧ t.reg.count = s.reg.count + 1) ∧
        ((collecting (s.reel r) = false ∨ m.sample = none) → t.reg.sum = s.reg.sum ∧ t.reg.count = s.reg.count) ∧
        (collecting (s.reel r) = true → table.acqTimeout ≤ t.reg.sinceOpen → table.acqMin ≤ t.reg.count →
          (t.reel r).state = .active .locked ∧ (t.reel r).acqOutcome = .locked ∧
          (t.reel r).reelPitch = (t.reg.sum + t.reg.count / 2) / t.reg.count ∧
          (t.reel r).reelShrinkage = some (shrinkage (t.reel r).reelPitch table.unshrunkPitch) ∧
          t.svc.causes.acqFailed = s.svc.causes.acqFailed) ∧
        (collecting (s.reel r) = true → table.acqTimeout ≤ t.reg.sinceOpen → t.reg.count < table.acqMin →
          (t.reel r).state = .active .failed ∧ (t.reel r).acqOutcome = .failed ∧
          (t.reel r).reelPitch = (s.reel r).reelPitch ∧ (t.reel r).reelShrinkage = (s.reel r).reelShrinkage ∧
          t.svc.causes.acqFailed = true) ∧
        ((collecting (s.reel r) = false ∨ t.reg.sinceOpen < table.acqTimeout) →
          (t.reel r).state = (if (s.reel r).state = .active .acquiring ∧ table.acqMin ≤ t.reg.count then
            .active .lockedCollecting else (s.reel r).state) ∧
          (t.reel r).acqOutcome = (s.reel r).acqOutcome ∧ (t.reel r).reelPitch = (s.reel r).reelPitch ∧
          (t.reel r).reelShrinkage = (s.reel r).reelShrinkage ∧ t.svc.causes.acqFailed = s.svc.causes.acqFailed) ∧
        (∀ p, m.sample = some p → (t.reel r).state = .active .locked →
          (t.reel r).peakShrinkage = some (max ((s.reel r).peakShrinkage.getD (shrinkage p table.unshrunkPitch))
            (shrinkage p table.unshrunkPitch))) ∧
        (((t.reel r).state ≠ .active .locked ∨ m.sample = none) →
          (t.reel r).peakShrinkage = (s.reel r).peakShrinkage) ∧
        speedDecided (t.slot k).tearPresent (decide ((t.reel r).state = .active .acquiring)) (t.slot k).regHeld
          (t.slot k).confidence table.upConf s.xport t.xport) ∧
      exposureDecided (s.slot k).repStep (gradeVal (setInForce s.grade) 222).toNat
        [(s.slot k).hist.r, (s.slot k).hist.g, (s.slot k).hist.b] s.xport t.xport ∧
      t.xport = { s.xport with
        cls := t.xport.cls, heldRun := t.xport.heldRun, goodRun := t.xport.goodRun, cmdStep := t.xport.cmdStep,
        mismatch := t.xport.mismatch, stale := t.xport.stale, lastReported := some (s.slot k).repStep,
        loadHold := s.xport.hyst || bothOccupied s } ∧
      (∃ c retired, c = classifyRegions (s.slot k).latch.defect (s.slot k).frameNo (s.slot k).regions
          (candidateGate (s.slot k).frameNo (clearMarks s.defect.tracks)) ∧
        retired = (countMisses c.2).filter (retires (s.slot k).latch.defect) ∧
        (t.slot k).regions = c.1 ∧ (t.slot k).tearPresent = hasTear c.1 ∧
        t.defect.tracks = (countMisses c.2).filter (fun x => !retires (s.slot k).latch.defect x) ∧
        t.defect.tearMem = some ⟨(s.slot k).frameNo, hasTear c.1⟩ ∧ t.defect.table = s.defect.table ∧
        (t.reel r).counters.scratches = credit32 (s.reel r).counters.scratches retired.length ∧
        (t.reel r).counters.tearRuns = credit32 (s.reel r).counters.tearRuns
          (if hasTear c.1 && startsTearRun s.defect.tearMem (s.slot k).frameNo then 1 else 0) ∧
        t.svc.causes.tear =
          (s.svc.causes.tear || (hasTear c.1 && startsTearRun s.defect.tearMem (s.slot k).frameNo)) ∧
        (t.reel r).counters.lost = credit32 (s.reel r).counters.lost (s.slot k).regionsLost) ∧
      t.grade.fade = fadeClose (setInForce s.grade) (s.slot k).hist s.grade.fade ∧
      (t.slot k).fade = appliedFade t.grade.fade ∧
      (t.reel r).maxGain = max (s.reel r).maxGain (largestGain t.grade.fade) ∧
      (t.reel r).counters.opened = (s.reel r).counters.opened ∧
      (t.slot k).exposureChanged = exposureChangedFrom s.xport.lastReported (s.slot k).repStep ∧
      (t.slot k).lines = (s.slot k).lines ∧
      (∀ j, j ≠ k → (s.slot j).state ≠ .free → (s.slot j).link = .pending k → (t.slot j).link = .ready k) ∧
      (∀ q, q ≠ r → (t.reel q).state = (s.reel q).state ∧ (t.reel q).header = (s.reel q).header ∧
        sameFrameCounts (s.reel q).counters (t.reel q).counters) ∧ (t.reel r).header = (s.reel r).header ∧
      (t.reel r).isActive = true ∧ (t.reel r).counters.emitted = (s.reel r).counters.emitted ∧
      (t.reel r).counters.discarded = (s.reel r).counters.discarded ∧
      (∀ j, j ≠ k → sameFrame (s.slot j) (t.slot j)) ∧ t.store.list = s.store.list ∧ t.shelf = s.shelf ∧
      sameReports s t ∧ sameTables s t ∧ sameChannel s t) ∧
  (∀ (s : State) (k : Fin 4), s.npor = true → s.link.rx = .filling k → (s.slot k).tag = none →
    ∃ t, exec .frameClose s = .next t ∧ t.link.rx = .between ∧
      ((t.slot k).state = .closed ∨ (t.slot k).state = .emitting) ∧
      t.slot k = { s.slot k with state := (t.slot k).state } ∧
      (∀ rest, s.store.list = .frame k :: rest → anyEmitting s = false → (s.slot k).link = .none →
        (t.slot k).state = .emitting) ∧
      (∀ j, j ≠ k → t.slot j = { s.slot j with state := (t.slot j).state }) ∧ t.store.list = s.store.list ∧
      (∀ q, t.reel q = { s.reel q with counters := (t.reel q).counters } ∧
        sameFrameCounts (s.reel q).counters (t.reel q).counters ∧
        (t.reel q).counters.opened = (s.reel q).counters.opened) ∧
      t.reg = s.reg ∧ t.defect = s.defect ∧ t.grade.fade = s.grade.fade ∧ t.shelf = s.shelf ∧ sameTransport s t ∧
      sameReports s t ∧ sameTables s t ∧ sameChannel s t)

/-- A SPLICE between frames: noted for the next frame, every fade channel direct, reference and tracks dropped, the
confirmed tracks and the splice credited, and the cell put in the emission list. -/
def Obligations.SpliceIsNotedCreditedAndForwarded : Prop :=
  ∀ s : State, s.npor = true → s.link.rx = .between → ∃ t, exec .splice s = .next t ∧
    t.store.spliceSeen = true ∧
    t.grade.fade = ⟨{ s.grade.fade.r with direct := true }, { s.grade.fade.g with direct := true },
      { s.grade.fade.b with direct := true }⟩ ∧
    (∀ r, activeRec s = some r →
      t.defect = { s.defect with tracks := [] } ∧ t.reg = { s.reg with ref := none, goodDx := 0, goodDy := 0 } ∧
      (t.reel r).counters.splices = credit32 (s.reel r).counters.splices 1 ∧
      (t.reel r).counters.scratches = credit32 (s.reel r).counters.scratches (confirmedCount s.defect.tracks)) ∧
    (activeRec s = none → t.defect = s.defect ∧ t.reg = s.reg ∧
      ∀ r, (t.reel r).counters.splices = (s.reel r).counters.splices) ∧
    ((s.store.list.filter isControl).length < 16 →
      t.store.list = s.store.list ++ [.splice] ∧ t.svc.causes.frameLost = s.svc.causes.frameLost) ∧
    (16 ≤ (s.store.list.filter isControl).length → t.store.list = s.store.list ∧ t.svc.causes.frameLost = true) ∧
    (∀ k, sameFrame (s.slot k) (t.slot k) ∧
      ((s.slot k).state ≠ .free → (s.slot k).link = .unsettled → (t.slot k).link = .none)) ∧
    (∀ r, t.reel r = { s.reel r with counters := (t.reel r).counters } ∧
      sameFrameCounts (s.reel r).counters (t.reel r).counters ∧
      (t.reel r).counters.opened = (s.reel r).counters.opened) ∧ t.link.rx = .between ∧
    t.shelf = s.shelf ∧ sameTransport s t ∧ sameReports s t ∧ sameTables s t ∧ sameChannel s t

/-- A REEL_CLOSE of the ACTIVE reel with frames still in the store: DRAINING, the close test made, the tracks credited, the
class set to the ceiling, and an UNSETTLED link settled to NONE. -/
def Obligations.ReelCloseDrainsTheReel : Prop :=
  ∀ (s : State) (r : Fin 2), s.npor = true → s.link.rx = .between → activeRec s = some r → 0 < storeCount s r →
    ∃ t, exec .reelClose s = .next t ∧ (t.reel r).state = .draining ∧ (t.reel r).header = (s.reel r).header ∧
      (t.reel r).closeMissing = (s.reel r).closeMissing ∧
      (collecting (s.reel r) = false → (t.reel r).acqOutcome = (s.reel r).acqOutcome ∧
        (t.reel r).reelPitch = (s.reel r).reelPitch ∧ t.svc.causes.acqFailed = s.svc.causes.acqFailed) ∧
      (∀ c, s.reg.closeCopy = some c → collecting (s.reel r) = true → c.acqMin ≤ s.reg.count →
        (t.reel r).acqOutcome = .locked ∧ (t.reel r).reelPitch = (s.reg.sum + s.reg.count / 2) / s.reg.count ∧
        (t.reel r).reelShrinkage = some (shrinkage (t.reel r).reelPitch c.unshrunkPitch) ∧
        t.svc.causes.acqFailed = s.svc.causes.acqFailed) ∧
      (∀ c, s.reg.closeCopy = some c → collecting (s.reel r) = true → s.reg.count < c.acqMin →
        (t.reel r).acqOutcome = .failed ∧ t.svc.causes.acqFailed = true) ∧
      (collecting (s.reel r) = true → s.reg.closeCopy = none →
        (t.reel r).acqOutcome = .failed ∧ t.svc.causes.acqFailed = true) ∧
      (t.reel r).counters.scratches = credit32 (s.reel r).counters.scratches (confirmedCount s.defect.tracks) ∧
      t.defect = { s.defect with tracks := [], tearMem := none } ∧ t.xport.cls = s.xport.ceiling ∧
      t.xport.cmdStep = s.xport.cmdStep ∧ t.reg = s.reg ∧ t.reels.last = s.reels.last ∧ t.reels.waiting = s.reels.waiting ∧
      ((s.store.list.filter isControl).length < 16 → t.store.list = s.store.list ++ [.reelClose]) ∧
      (∀ k, sameFrame (s.slot k) (t.slot k) ∧
        ((s.slot k).state ≠ .free → (s.slot k).link = .unsettled → (t.slot k).link = .none)) ∧
      t.shelf = s.shelf ∧ t.svc.queue = s.svc.queue ∧ sameTables s t ∧ sameChannel s t

/-- A REEL_CLOSE of the ACTIVE reel with none of its frames in the store: the record is disposed at once, its notice queued,
and the record FREE; with no record ACTIVE the cell is only forwarded. Either way an UNSETTLED link becomes NONE. -/
def Obligations.ReelCloseDisposesAnEmptyReel : Prop :=
  (∀ (s : State) (r : Fin 2), s.npor = true → s.link.rx = .between → activeRec s = some r → storeCount s r = 0 →
    noticeFree s = true → s.reels.waiting = [] →
    ∃ t x, exec .reelClose s = .next t ∧ (t.reel r).state = .free ∧ x.header = (s.reel r).header ∧
      x.state = .draining ∧ x.maxGain = (s.reel r).maxGain ∧ x.peakShrinkage = (s.reel r).peakShrinkage ∧
      x.counters.scratches = credit32 (s.reel r).counters.scratches (confirmedCount s.defect.tracks) ∧
      x.counters = { (s.reel r).counters with scratches := x.counters.scratches } ∧
      (collecting (s.reel r) = false → x.reelShrinkage = (s.reel r).reelShrinkage ∧
        x.acqOutcome = (s.reel r).acqOutcome) ∧
      t.reels.last = { (dispose s.shelf x).1 with state := .disposing } ∧ t.shelf = (dispose s.shelf x).2 ∧
      t.svc.queue = s.svc.queue ++ [⟨true, noticeWords s.link.lane t.reels.last⟩] ∧ t.reels.waiting = [] ∧
      (∀ q, q ≠ r → (t.reel q).state = (s.reel q).state) ∧ t.xport.cls = s.xport.ceiling ∧
      ((s.store.list.filter isControl).length < 16 → t.store.list = s.store.list ++ [.reelClose]) ∧
      (∀ k, sameFrame (s.slot k) (t.slot k) ∧
        ((s.slot k).state ≠ .free → (s.slot k).link = .unsettled → (t.slot k).link = .none)) ∧
      sameTables s t ∧ sameChannel s t) ∧
  (∀ s : State, s.npor = true → s.link.rx = .between → activeRec s = none →
    ∃ t, exec .reelClose s = .next t ∧ (∀ q, (t.reel q).state = (s.reel q).state) ∧ t.reels.last = s.reels.last ∧
      ((s.store.list.filter isControl).length < 16 → t.store.list = s.store.list ++ [.reelClose]) ∧
      (∀ k, sameFrame (s.slot k) (t.slot k) ∧
        ((s.slot k).state ≠ .free → (s.slot k).link = .unsettled → (t.slot k).link = .none)) ∧
      t.reg = s.reg ∧ t.defect = s.defect ∧ t.shelf = s.shelf ∧
      t.xport.cls = s.xport.cls ∧ t.svc.queue = s.svc.queue ∧ sameTables s t ∧ sameChannel s t)

/-- A REEL_OPEN with no record ACTIVE opens the lowest-numbered FREE record with the clamped header and sets the units up
for the new reel; an UNSETTLED link becomes NONE. -/
def Obligations.ReelOpenOpensTheLowestFreeRecord : Prop :=
  ∀ (s : State) (h : RawHeader) (r : Fin 2), s.npor = true → s.link.rx = .between → activeRec s = none →
    (s.reel r).state = .free → (∀ q < r, (s.reel q).state ≠ .free) → noFrameOf s r →
    ∃ t, exec (.reelOpen h) s = .next t ∧ (t.reel r).state = .active .acquiring ∧
      (t.reel r).header = clampHeader h ∧ (t.reel r).gradeSel = s.grade.sel ∧
      (t.reel r).gradeCheck = checkInForce s.grade ∧ (t.reel r).acqOutcome = .none ∧ (t.reel r).reelShrinkage = none ∧
      (t.reel r).peakShrinkage = none ∧ (t.reel r).maxGain = 0 ∧ (t.reel r).closeMissing = false ∧
      (t.reel r).hold = false ∧ (t.reel r).rescan = false ∧ (t.reel r).finalClass = .none ∧
      (t.reel r).outcome = .none ∧ (t.reel r).counters = zeroCounters ∧
      (∀ q, q ≠ r → (t.reel q).state = (s.reel q).state) ∧ t.reels.refused = s.reels.refused ∧
      t.reg = { s.reg with ref := none, goodDx := 0, goodDy := 0, sum := 0, count := 0, sinceOpen := 0, closeCopy := none } ∧
      t.xport.cls = (if rank s.xport.ceiling ≤ 2 then .s2 else s.xport.ceiling) ∧ t.xport.heldRun = 0 ∧
      t.xport.goodRun = 0 ∧ t.xport.cmdStep = (clampHeader h).step ∧ t.xport.mismatch = 0 ∧
      t.xport.stale = s.xport.stale ∧ t.xport.lastReported = none ∧
      t.defect = { s.defect with tracks := [], tearMem := none } ∧
      t.grade.fade.r.direct = true ∧ t.grade.fade.g.direct = true ∧ t.grade.fade.b.direct = true ∧
      t.svc.causes.acqFailed = false ∧
      ((s.store.list.filter isControl).length < 16 → t.store.list = s.store.list ++ [.reelOpen (clampHeader h)]) ∧
      (∀ k, sameFrame (s.slot k) (t.slot k) ∧
        ((s.slot k).state ≠ .free → (s.slot k).link = .unsettled → (t.slot k).link = .none)) ∧
      t.shelf = s.shelf ∧ t.xport.ceiling = s.xport.ceiling ∧
      t.xport.hyst = s.xport.hyst ∧ sameReports s t ∧ sameTables s t ∧ sameChannel s t

/-- A REEL_OPEN that finds no FREE record is refused and counted, and still forwarded; one that finds a reel ACTIVE ends
that reel with CLOSE_MISSING first. With no frame of that reel in the store its record is disposed at once: notified and
FREE, so that the new reel may open in it, or waiting for the notice position. An ACQ_FAILED of that reel's own close test
stays latched through the opening. In every case an UNSETTLED link becomes NONE. -/
def Obligations.ReelOpenIsRefusedOrEndsTheReelBefore : Prop :=
  (∀ (s : State) (h : RawHeader), s.npor = true → s.link.rx = .between → activeRec s = none →
    (∀ q, (s.reel q).state ≠ .free) →
    ∃ t, exec (.reelOpen h) s = .next t ∧ t.reels.refused = satAdd 65535 s.reels.refused 1 ∧
      (∀ q, (t.reel q).state = (s.reel q).state ∧ (t.reel q).header = (s.reel q).header) ∧
      ((s.store.list.filter isControl).length < 16 → t.store.list = s.store.list ++ [.reelOpen (clampHeader h)]) ∧
      (∀ k, sameFrame (s.slot k) (t.slot k) ∧
        ((s.slot k).state ≠ .free → (s.slot k).link = .unsettled → (t.slot k).link = .none)) ∧
      t.reg = s.reg ∧ t.defect = s.defect ∧ t.shelf = s.shelf ∧
      sameTransport s t ∧ t.reels.last = s.reels.last ∧ t.reels.waiting = s.reels.waiting ∧
      t.svc.queue = s.svc.queue ∧ sameTables s t ∧ sameChannel s t) ∧
  (∀ (s : State) (h : RawHeader) (r q : Fin 2), s.npor = true → s.link.rx = .between → activeRec s = some r →
    q ≠ r → 0 < storeCount s r →
    ∃ t, exec (.reelOpen h) s = .next t ∧ (t.reel r).state = .draining ∧ (t.reel r).closeMissing = true ∧
      (t.reel r).header = (s.reel r).header ∧
      ((s.reel q).state = .free → noFrameOf s q → (t.reel q).state = .active .acquiring ∧
        (t.reel q).header = clampHeader h ∧ (t.reel q).counters = zeroCounters ∧
        t.reels.refused = s.reels.refused ∧ t.xport.cmdStep = (clampHeader h).step ∧
        t.xport.cls = (if rank s.xport.ceiling ≤ 2 then .s2 else s.xport.ceiling)) ∧
      ((s.reel q).state ≠ .free → t.reels.refused = satAdd 65535 s.reels.refused 1 ∧
        (t.reel q).state = (s.reel q).state ∧ t.xport.cls = s.xport.ceiling) ∧
      t.defect = { s.defect with tracks := [], tearMem := none } ∧ t.shelf = s.shelf ∧ t.svc.queue = s.svc.queue ∧
      (∀ k, sameFrame (s.slot k) (t.slot k) ∧
        ((s.slot k).state ≠ .free → (s.slot k).link = .unsettled → (t.slot k).link = .none)) ∧
      sameTables s t ∧ sameChannel s t) ∧
  (∀ (s : State) (h : RawHeader) (r q : Fin 2), s.npor = true → s.link.rx = .between → activeRec s = some r →
    q ≠ r → storeCount s r = 0 →
    ∃ t x, exec (.reelOpen h) s = .next t ∧ x.state = .draining ∧ x.closeMissing = true ∧
      x.header = (s.reel r).header ∧ x.maxGain = (s.reel r).maxGain ∧ x.peakShrinkage = (s.reel r).peakShrinkage ∧
      x.counters = { (s.reel r).counters with
        scratches := credit32 (s.reel r).counters.scratches (confirmedCount s.defect.tracks) } ∧
      (collecting (s.reel r) = false → x.reelShrinkage = (s.reel r).reelShrinkage ∧
        x.acqOutcome = (s.reel r).acqOutcome) ∧
      t.shelf = (dispose s.shelf x).2 ∧ t.defect = { s.defect with tracks := [], tearMem := none } ∧
      (noticeFree s = true → s.reels.waiting = [] → ∃ o, o = (if q < r ∧ (s.reel q).state = .free then q else r) ∧
        t.reels.last = { (dispose s.shelf x).1 with state := .disposing } ∧ t.reels.waiting = [] ∧
        t.svc.queue = s.svc.queue ++ [⟨true, noticeWords s.link.lane t.reels.last⟩] ∧
        (t.reel o).state = .active .acquiring ∧ (t.reel o).header = clampHeader h ∧
        (noFrameOf s o → (t.reel o).counters = zeroCounters) ∧ (t.reel o).closeMissing = false ∧
        (o = q → (t.reel r).state = .free) ∧ (o = r → (t.reel q).state = (s.reel q).state) ∧
        t.reels.refused = s.reels.refused ∧ t.xport.cmdStep = (clampHeader h).step ∧
        t.xport.cls = (if rank s.xport.ceiling ≤ 2 then .s2 else s.xport.ceiling) ∧
        (t.svc.causes.acqFailed = true ↔ closeTestFails s r = true)) ∧
      (noticeFree s = false → (t.reel r).state = .disposing ∧ t.reels.waiting = s.reels.waiting ++ [r] ∧
        t.reels.last = s.reels.last ∧ t.svc.queue = s.svc.queue ∧
        ((s.reel q).state = .free → (t.reel q).state = .active .acquiring ∧ (t.reel q).header = clampHeader h ∧
          t.reels.refused = s.reels.refused ∧ t.xport.cmdStep = (clampHeader h).step ∧
          (t.svc.causes.acqFailed = true ↔ closeTestFails s r = true)) ∧
        ((s.reel q).state ≠ .free → t.reels.refused = satAdd 65535 s.reels.refused 1 ∧
          (t.reel q).state = (s.reel q).state ∧ t.xport.cls = s.xport.ceiling)) ∧
      ((s.store.list.filter isControl).length < 16 → t.store.list = s.store.list ++ [.reelOpen (clampHeader h)]) ∧
      (∀ k, sameFrame (s.slot k) (t.slot k) ∧
        ((s.slot k).state ≠ .free → (s.slot k).link = .unsettled → (t.slot k).link = .none)) ∧
      sameTables s t ∧ sameChannel s t) ∧
  (∀ (s : State) (r : Fin 2), closeTestFails s r = true ↔
    collecting (s.reel r) = true ∧ ∀ c, s.reg.closeCopy = some c → s.reg.count < c.acqMin)

/-- A reel header is clamped field by field: a value outside its range is taken as the nearer end (0 holes as 1), the pixels
are then rounded down to a multiple of 16, and the base type and the reel id stand as sent. -/
def Obligations.ReelHeaderIsClamped : Prop :=
  ∀ h : RawHeader, (clampHeader h).reelId = h.reelId ∧
    (clampHeader h).base = (match h.base.toNat with
      | 0 => .nitrate
      | 1 => .acetate
      | 2 => .polyester
      | _ => .unknown) ∧
    (clampHeader h).acid = (if 3 < h.acid.toNat then 3 else h.acid.toNat) ∧
    (clampHeader h).holes = (if h.holes.toNat = 0 then 1 else if 8 < h.holes.toNat then 8 else h.holes.toNat) ∧
    (clampHeader h).lines =
      (if h.lines.toNat < 64 then 64 else if 3120 < h.lines.toNat then 3120 else h.lines.toNat) ∧
    (clampHeader h).pixels =
      (if h.pixels.toNat < 256 then 256 else if 4096 < h.pixels.toNat then 4096 else h.pixels.toNat / 16 * 16) ∧
    (clampHeader h).step = (if 31 < h.step.toNat then 31 else h.step.toNat)

/-! ## The ingest port, incoming -/

/-- R3: the link error counter counts the dropped cells of both ports up to 65535, is returned and cleared by READ_STATUS,
is 0 after power-on and RESET, and is moved by nothing else; a dropped scan cell changes nothing but it. -/
def Obligations.LinkErrorCounterCountsDroppedCells : Prop :=
  (∀ s : State, s.npor = true → ∃ t, exec (.droppedCell .scan) s = .next t ∧
    t = { s with link := { s.link with errors := satAdd 65535 s.link.errors 1 } }) ∧
  (∀ s : State, s.npor = true → ∃ t, exec (.droppedCell .ingest) s = .next t ∧
    t.link.errors = satAdd 65535 s.link.errors 1 ∧ t.link.pause = s.link.pause) ∧
  (∀ n, n < 65535 → satAdd 65535 n 1 = n + 1) ∧ satAdd 65535 65535 1 = 65535 ∧
  (∀ (c : Instr) (s t : State), (∀ p, c ≠ .droppedCell p) → exec c s = .next t →
    t.link.errors = s.link.errors ∨ t.link.errors = 0) ∧
  (∀ (s t : State), s.link.errors ≤ 65535 → step s = .next t → t.link.errors ≤ 65535) ∧
  (∀ (c : Instr) (s t : State), (∀ p, c ≠ .droppedCell p) → (∀ tag b, c ≠ .readStatus tag b) →
    (∀ tag b, c ≠ .reset tag b) → (∀ p v w, c ≠ .serviceCell p v w) → (∀ lane, c ≠ .powerOn lane) → c ≠ .nporFall →
    exec c s = .next t → t.link.errors = s.link.errors) ∧
  (∀ (s : State) (tag : Byte), s.npor = true → replyFree s = true → ∃ t, exec (.readStatus tag []) s = .next t ∧
    t.link.errors = 0 ∧ (statusReply s)[2]? = some (fld s.link.errors 16 ||| fld s.reels.refused 0) ∧
    ∃ q, t.svc.queue = s.svc.queue ++ [q] ∧ q.words = replyWords 2 tag (0 :: statusReply s)) ∧
  (∀ (s : State) (tag : Byte), s.npor = true → ∃ t, exec (.reset tag []) s = .next t ∧ t.link.errors = 0) ∧
  (∀ (s : State) lane, ∃ t, exec (.powerOn lane) s = .next t ∧ t.link.errors = 0)

/-- A MISMATCH or an ORPHAN discards any open message and the first copy, whether or not a message is open, and
changes nothing else; a dropped ingest cell is an empty slot. That no TIMEOUT is recorded beside it when the cell is the
4096th is the model's choice (log 26). -/
def Obligations.PairFaultsDiscardTheOpenMessage : Prop :=
  ∀ (s : State) (f w : Word), s.npor = true → s.loadHoldSettled → s.svc.pair = .haveFirst f →
    (w ≠ f → exec (.serviceCell s.link.pause true w) s = .next (s.faulted .mismatch)) ∧
    exec (.serviceCell s.link.pause false w) s = .next (s.faulted .orphan) ∧
    exec (.droppedCell .ingest) s =
      .next { s.faulted .orphan with link := { s.link with errors := satAdd 65535 s.link.errors 1 } } ∧
    (s.svc.framing = .waiting → isStart w = false → w = f →
      exec (.serviceCell s.link.pause true w) s =
        .next { s with svc := { s.svc with pair := .expectFirst, stray := satAdd 65535 s.svc.stray 1 } })

/-- A first copy is held, a start word with a body opens a message, a body word is collected, and PAUSE sets the pause
state; a changed and unmasked pause state raises the summary flag. -/
def Obligations.ServiceCellBuildsMessages : Prop :=
  ∀ (s : State) (pause : Bool) (w : Word), s.npor = true →
    (s.svc.pair = .expectFirst → s.svc.framing = .waiting →
      (∃ t, exec (.serviceCell pause true w) s = .next t ∧ t.svc.pair = .haveFirst w ∧ t.svc.framing = .waiting ∧
        t.svc.queue = s.svc.queue ∧ t.link.pause = pause) ∧
      (∃ t, exec (.serviceCell pause false w) s = .next t ∧ t.svc.pair = .expectFirst ∧ t.svc.framing = .waiting ∧
        t.svc.queue = s.svc.queue ∧ t.link.pause = pause ∧
        (pause ≠ s.link.pause → s.svc.mask.getLsbD 7 = true → t.svc.summary = true ∧
          t.svc.causes.condChange = true))) ∧
    (s.svc.pair = .haveFirst w → s.svc.framing = .waiting → isStart w = true → 0 < bitsOf w 15 8 →
      ∃ t, exec (.serviceCell pause true w) s = .next t ∧ t.svc.pair = .expectFirst ∧
        t.svc.framing = .collecting [w] (bitsOf w 15 8) 0 ∧ t.svc.queue = s.svc.queue ∧ t.link.pause = pause ∧
        t.svc.faultCount = s.svc.faultCount ∧ t.svc.stray = s.svc.stray) ∧
    (∀ b d n, s.svc.framing = .collecting b (d + 2) n → s.svc.pair = .haveFirst w →
      ∃ t, exec (.serviceCell pause true w) s = .next t ∧ t.svc.pair = .expectFirst ∧
        t.svc.framing = .collecting (b ++ [w]) (d + 1) 0 ∧ t.svc.queue = s.svc.queue ∧ t.link.pause = pause) ∧
    (∀ b d n, s.svc.framing = .collecting b d n → s.svc.pair = .expectFirst → n + 1 < 4096 →
      ∃ t, exec (.serviceCell pause true w) s = .next t ∧ t.svc.pair = .haveFirst w ∧
        t.svc.framing = .collecting b d (n + 1) ∧ t.link.pause = pause)

/-- The last accepted word of a message runs it: the cell does exactly what the message's verb command does (the verb
commands stand for complete messages, log 10). -/
def Obligations.CompletedMessageRunsItsVerb : Prop :=
  ∀ (s : State) (v : Verb) (tag : Byte) (w : Word), s.npor = true → s.loadHoldSettled → s.svc.pair = .haveFirst w →
    (s.svc.framing = .waiting → w = startWord (verbCode v) 0 tag.toNat →
      exec (.serviceCell s.link.pause true w) s = exec (verbCommand v tag []) s) ∧
    (∀ n b c, n ≤ 62 → s.svc.framing = .collecting (startWord (verbCode v) n tag.toNat :: b) 1 c →
      exec (.serviceCell s.link.pause true w) s = exec (verbCommand v tag (b ++ [w])) s)

/-- The timeout count starts at 0, counts the cells that complete no word, starts again at each accepted word, and at
4096 discards the message and any first copy as a TIMEOUT; with no message open nothing is counted. TIMEOUT as a command of
its own does this if the count has reached 4096, and nothing otherwise (the model's choice, log 12). -/
def Obligations.OpenMessageTimesOut : Prop :=
  (∀ s : State, s.npor = true →
    (s.svc.framing = .waiting → exec .timeout s = .next s) ∧
    (∀ b d c, s.svc.framing = .collecting b d c → c < 4096 → exec .timeout s = .next s) ∧
    (∀ b d c, s.svc.framing = .collecting b d c → 4096 ≤ c → exec .timeout s = .next (s.faulted .timeout))) ∧
  (∀ (s : State) (w : Word), s.npor = true → s.loadHoldSettled → s.svc.pair = .expectFirst →
    (∀ b d c, s.svc.framing = .collecting b d c → c + 1 < 4096 →
      exec (.serviceCell s.link.pause false w) s =
        .next { s with svc := { s.svc with framing := .collecting b d (c + 1) } } ∧
      exec (.serviceCell s.link.pause true w) s =
        .next { s with svc := { s.svc with framing := .collecting b d (c + 1), pair := .haveFirst w } } ∧
      ∃ t, exec (.droppedCell .ingest) s = .next t ∧ t.svc.framing = .collecting b d (c + 1)) ∧
    (∀ b d c, s.svc.framing = .collecting b d c → c + 1 = 4096 →
      exec (.serviceCell s.link.pause false w) s = .next (s.faulted .timeout) ∧
      exec (.serviceCell s.link.pause true w) s = .next (s.faulted .timeout) ∧
      ∃ t, exec (.droppedCell .ingest) s = .next t ∧ t.svc.framing = .waiting ∧ t.svc.faultKind = .timeout) ∧
    (s.svc.framing = .waiting →
      exec (.serviceCell s.link.pause false w) s = .next s ∧
      exec (.serviceCell s.link.pause true w) s = .next { s with svc := { s.svc with pair := .haveFirst w } })) ∧
  (∀ (s : State) (w : Word), s.npor = true → s.loadHoldSettled → s.svc.pair = .haveFirst w →
    (s.svc.framing = .waiting → isStart w = true → 0 < bitsOf w 15 8 →
      exec (.serviceCell s.link.pause true w) s =
        .next { s with svc := { s.svc with framing := .collecting [w] (bitsOf w 15 8) 0, pair := .expectFirst } }) ∧
    (∀ b d c, s.svc.framing = .collecting b (d + 2) c →
      exec (.serviceCell s.link.pause true w) s =
        .next { s with svc := { s.svc with framing := .collecting (b ++ [w]) (d + 1) 0, pair := .expectFirst } }))

/-! ## The outgoing cells -/

/-- The scan port's outgoing cell carries the directive as it stands, field by field, and its link check; composing it
changes nothing else. -/
def Obligations.DirectiveCellCarriesTheDirective : Prop :=
  ∀ s : State, s.npor = true → s.xport.cmdStep ≤ 31 → ∃ t w, exec .directiveCell s = .next t ∧
    t = { s with link := { s.link with scanOut := some ⟨[w], linkCheck [w]⟩ } } ∧
    w.toNat = 8 * 2 ^ 28 + rank s.xport.cls * 2 ^ 26 + s.xport.cmdStep * 2 ^ 16 +
      (if s.xport.loadHold then 2 ^ 8 else 0)

/-- An outgoing ingest cell carries the kind code 0 to 6 of the table, the attention code, the summary flag, the slot-valid flag
and, for a LINE of 16(q + 1) pixels, q in its header, then the service word and the payload words of the table, field by
field, and the link check over all of them. -/
def Obligations.OutgoingCellLayout : Prop :=
  (∀ (attention : Nat) (summary : Bool) (slot : Option Word) (lane : BitVec 4) (e : Emitted) (q : Nat),
    attention ≤ 7 → q ≤ 255 → (∀ px, e = .line px → px.length = 16 * (q + 1)) →
    ∃ h, (ingestCellOf attention summary slot lane e).words =
        h :: slot.getD 0 :: outgoingPayload attention summary slot lane e ∧
      h.toNat = (match e with
          | .idle => 0
          | .reelOpen _ => 1
          | .frameOpen _ => 2
          | .line _ => 3
          | .frameClose _ => 4
          | .splice => 5
          | .reelClose => 6) * 2 ^ 28 + attention * 2 ^ 25 + (if summary then 2 ^ 24 else 0) +
        (if slot.isSome then 2 ^ 23 else 0) + (match e with
          | .line _ => q
          | _ => 0) ∧
      (ingestCellOf attention summary slot lane e).check =
        linkCheck (ingestCellOf attention summary slot lane e).words) ∧
  (∀ (attention : Nat) (summary : Bool) (slot : Option Word) (lane : BitVec 4),
    outgoingPayload attention summary slot lane .idle = [] ∧ outgoingPayload attention summary slot lane .splice = [] ∧
    outgoingPayload attention summary slot lane .reelClose = [] ∧
    (∀ h : ReelHeader, h.acid ≤ 3 → h.holes ≤ 8 → h.step ≤ 31 → h.lines ≤ 3120 → h.pixels ≤ 4096 →
      ∃ a b, outgoingPayload attention summary slot lane (.reelOpen h) = [h.reelId, a, b] ∧
        a.toNat = (match h.base with
            | .nitrate => 0
            | .acetate => 1
            | .polyester => 2
            | .unknown => 3) * 2 ^ 30 + lane.toNat * 2 ^ 24 + h.acid * 2 ^ 16 + h.holes * 2 ^ 8 + h.step ∧
        b.toNat = h.lines * 2 ^ 16 + h.pixels) ∧
    (∀ f : FrameStatus, f.confidence ≤ 64 → f.dx.natAbs ≤ 128 → f.dy.natAbs ≤ 128 →
      f.fade.r.black ≤ 65535 → f.fade.r.gain ≤ 65535 → f.fade.g.black ≤ 65535 → f.fade.g.gain ≤ 65535 →
      f.fade.b.black ≤ 65535 → f.fade.b.gain ≤ 65535 →
      ∃ a b c d e, outgoingPayload attention summary slot lane (.frameOpen f) = [f.frameNo, f.reelId, a, b, c, d, e] ∧
        (a.extractLsb' 16 16).toInt = f.dx ∧ (a.extractLsb' 0 16).toInt = f.dy ∧
        b.toNat = f.confidence * 2 ^ 24 + (if f.untreated then 16 else 0) + (if f.spliceBefore then 8 else 0) +
          (if f.exposureChanged then 4 else 0) + (if f.shiftClamped then 2 else 0) + (if f.regHeld then 1 else 0) ∧
        c.toNat = f.fade.r.black * 2 ^ 16 + f.fade.r.gain ∧ d.toNat = f.fade.g.black * 2 ^ 16 + f.fade.g.gain ∧
        e.toNat = f.fade.b.black * 2 ^ 16 + f.fade.b.gain) ∧
    (∀ px : List Pixel, (outgoingPayload attention summary slot lane (.line px)).length = 2 * px.length ∧
      ∀ (i : Nat) (p : Pixel), px[i]? = some p →
        ∃ a b, (outgoingPayload attention summary slot lane (.line px))[2 * i]? = some a ∧
          (outgoingPayload attention summary slot lane (.line px))[2 * i + 1]? = some b ∧
          a.toNat = p.r.toNat * 2 ^ 16 + p.g.toNat ∧ b.toNat = p.b.toNat * 2 ^ 16 + p.ir.toNat) ∧
    (∀ r : RepairSummary, r.repaired ≤ 256 → r.unrepaired ≤ 256 → r.lost ≤ 65535 →
      ∃ a b, outgoingPayload attention summary slot lane (.frameClose r) = [a, b] ∧
        a.toNat = r.repaired * 2 ^ 16 + r.unrepaired ∧
        b.toNat = r.lost * 2 ^ 16 + (if r.aborted then 4 else 0) + (if r.overflow then 2 else 0) +
          (if r.cut then 1 else 0)))

/-- An outgoing ingest cell sends nothing of the frame path during a pause; otherwise an aborted FRAME_CLOSE of a RESET first,
then the emission's cells in order, and with none under way the control entry at the head of the list, which leaves the list
when its cell is sent. An untreated frame's lines go out as stored. The service slot carries the word due, whatever the frame
path sends. -/
def Obligations.IngestOutgoingCellFollowsTheEmission : Prop :=
  ∀ s : State, s.npor = true → s.link.inFlight = none →
    (s.link.pause = true → ∃ t, exec (.ingestOutgoingCell .whole) s = .next t ∧ t.store = s.store ∧
      t.repair = s.repair ∧ t.link.aborted = s.link.aborted ∧
      t.link.ingestOut = some (ingestCellOf (attentionCode s) s.svc.summary (slotDue s) s.link.lane .idle)) ∧
    (∀ a rest, s.link.aborted = a :: rest → s.link.pause = false →
      ∃ t, exec (.ingestOutgoingCell .whole) s = .next t ∧ t.store = s.store ∧ t.repair = s.repair ∧
        t.link.aborted = rest ∧ t.link.ingestOut =
          some (ingestCellOf (attentionCode s) s.svc.summary (slotDue s) s.link.lane (.frameClose a))) ∧
    (∀ e, s.store.emission = some e → s.link.pause = false → s.link.aborted = [] → e.pos ≤ linesToSend s e.slot →
      ∃ t, exec (.ingestOutgoingCell .whole) s = .next t ∧
        t.store = { s.store with emission := some ⟨e.slot, e.pos + 1, e.status⟩ } ∧ t.repair = s.repair ∧
        (s.reels.waiting = [] → t.reels = s.reels) ∧
        (e.pos = 0 → t.link.ingestOut = some
          (ingestCellOf (attentionCode s) s.svc.summary (slotDue s) s.link.lane (.frameOpen e.status))) ∧
        (∀ y, e.pos = y + 1 → t.link.ingestOut = some
          (ingestCellOf (attentionCode s) s.svc.summary (slotDue s) s.link.lane (.line (emittedLine s e.slot y)))) ∧
        (∀ y, e.pos = y + 1 → ∀ px, (s.slot e.slot).lines[y]? = some px → (s.slot e.slot).tag = none →
          emittedLine s e.slot y = px)) ∧
    (∀ e, s.store.emission = some e → s.link.pause = false → s.link.aborted = [] →
      e.pos = linesToSend s e.slot + 1 →
      ∃ t, exec (.ingestOutgoingCell .underWay) s = .next t ∧ (t.link.inFlight.map (·.part)) = some .frameClose ∧
        (slotDue s = none → t.link.inFlight = some ⟨.frameClose, false⟩) ∧
        t.store.slots = s.store.slots ∧ t.store.list = s.store.list ∧ t.reels = s.reels ∧
        t.link.ingestOut = some (ingestCellOf (attentionCode s) s.svc.summary (slotDue s) s.link.lane
          (.frameClose (summaryOf s e.slot false)))) ∧
    (∀ c rest, s.store.list = c :: rest → s.link.pause = false → s.link.aborted = [] → s.store.emission = none →
      anyEmitting s = false → isControl c = true →
      (∃ t, exec (.ingestOutgoingCell .underWay) s = .next t ∧ t.store = s.store ∧
        (t.link.inFlight.map (·.part)) = some .control ∧
        (slotDue s = none → t.link.inFlight = some ⟨.control, false⟩)) ∧
      ∃ t, exec (.ingestOutgoingCell .whole) s = .next t ∧ t.store.list = rest ∧
        t.link.ingestOut =
          some (ingestCellOf (attentionCode s) s.svc.summary (slotDue s) s.link.lane (controlEmitted c)))

/-- The message at the head of the queue goes out word by word, each word in two consecutive cells, whatever the frame path
sends beside it, and frees its position when the second copy of its last word has been sent. What follows in the queue is
said of every cell but a FRAME_CLOSE, whose sending may also dispose a reel. -/
def Obligations.EveryMessageWordGoesOutTwice : Prop :=
  ∀ (s : State) (m : Message) (rest : List Message) (w : Word), s.npor = true → s.link.inFlight = none →
    s.svc.leftover = none → s.svc.queue = m :: rest → m.words[s.svc.copies / 2]? = some w →
    ∃ t, exec (.ingestOutgoingCell .whole) s = .next t ∧
      (∃ c h p, t.link.ingestOut = some c ∧ c.words = h :: w :: p ∧ bitOf h 23 = true) ∧
      (s.svc.copies + 1 < 2 * m.words.length → t.svc.copies = s.svc.copies + 1) ∧
      (s.svc.copies + 1 = 2 * m.words.length → t.svc.copies = 0) ∧
      ((composeEmitted s).2.1 ≠ .frameClose →
        (s.svc.copies + 1 < 2 * m.words.length → t.svc.queue = s.svc.queue) ∧
        (s.svc.copies + 1 = 2 * m.words.length → s.reels.waiting = [] → t.svc.queue = rest) ∧
        (∀ r, s.svc.copies + 1 = 2 * m.words.length → s.reels.waiting = [r] → (∀ x ∈ rest, x.notice = false) →
          t.reels.waiting = [] ∧ (t.reel r).state = .free ∧
          t.svc.queue = rest ++ [⟨true, noticeWords s.link.lane (s.reel r)⟩]))

/-! ## The events inside the part -/

/-- EMISSION_START: a CLOSED frame at the head with a settled link becomes EMITTING, its status record is formed, its
repairs planned and credited, and a written pending trim taken into use; while a slot is EMITTING nothing starts (as a
command of its own, log 12). -/
def Obligations.EmissionStartPlansTheFrame : Prop :=
  ∀ s : State, s.npor = true →
    (∀ k rest, s.store.list = .frame k :: rest → anyEmitting s = false → (s.slot k).state = .closed →
      linkSettled (s.slot k).link = true →
      ∃ t, exec .emissionStart s = .next t ∧ (t.slot k).state = .emitting ∧
        t.store.emission = some ⟨k, 0, statusOf s (s.slot k)⟩ ∧ t.store.list = s.store.list ∧
        (∀ j, j ≠ k → t.slot j = s.slot j) ∧ sameFrame (s.slot k) (t.slot k) ∧
        (∀ r, (s.slot k).tag = some r → (s.reel r).state ≠ .free →
          t.repair = some (planFor s k r) ∧
          (t.reel r).counters.repaired = credit32 (s.reel r).counters.repaired (planFor s k r).repaired ∧
          (t.reel r).counters.unrepaired = credit32 (s.reel r).counters.unrepaired (planFor s k r).unrepaired ∧
          (t.reel r).counters.partials = credit32 (s.reel r).counters.partials (if (planFor s k r).cut then 1 else 0) ∧
          (s.grade.written = true → t.grade.trim = s.grade.pendingTrim ∧ t.grade.written = false ∧
            (t.reel r).counters.trims = credit32 (s.reel r).counters.trims 1) ∧
          (s.grade.written = false → t.grade = s.grade ∧ (t.reel r).counters.trims = (s.reel r).counters.trims)) ∧
        ((s.slot k).tag = none → t.repair = s.repair ∧ t.grade = s.grade ∧ t.reels = s.reels) ∧
        t.link = s.link ∧ t.reg = s.reg ∧ t.defect = s.defect ∧ t.shelf = s.shelf ∧ sameTables s t) ∧
    (s.loadHoldSettled → anyEmitting s = true → exec .emissionStart s = .next s)

/-- EMISSION_END: when the FRAME_CLOSE has been sent the entry leaves the list, the emission is credited, the KEPT
predecessor is FREE, the slot is KEPT exactly if a successor waits for it, and the next head may start. An untreated frame's
slot becomes FREE and credits no record (as a command of its own, log 12). This holds in a pause too: a FRAME_CLOSE under
way when PAUSE came is sent to its end, which is the emission end, against R55's remark (log 8). Where the cell carries a
message's last copy as well, the message's position is freed first (log 27). -/
def Obligations.EmissionEndFreesTheFrame : Prop :=
  (∀ (s : State) (e : Emission) (r : Fin 2) (b : Bool), s.npor = true → s.store.emission = some e →
    s.link.inFlight = some ⟨.frameClose, b⟩ → (s.slot e.slot).state = .emitting →
    (s.slot e.slot).tag = some r →
    ((s.reel r).isActive = true ∨ ((s.reel r).state = .draining ∧ 1 < storeCount s r)) →
    (b = true → r ∉ s.reels.waiting) →
    ∃ t, exec .emissionEnd s = .next t ∧ t.link.inFlight = none ∧
      t.store.list = s.store.list.filter (fun x => decide (x ≠ .frame e.slot)) ∧
      (t.slot e.slot).state = (match (s.slot e.slot).link with
        | .ready _ => .kept
        | _ => .free) ∧
      (t.reel r).counters.emitted = credit32 (s.reel r).counters.emitted 1 ∧
      (t.reel r).counters.opened = (s.reel r).counters.opened ∧ (t.reel r).state = (s.reel r).state ∧
      (∀ j, j ≠ e.slot → (s.slot j).state = .kept → (s.slot j).link = .ready e.slot → (t.slot j).state = .free) ∧
      (∀ j, sameFrame (s.slot j) (t.slot j)) ∧
      (t.store.list = [] → t.store.emission = none ∧ t.repair = none) ∧
      (∀ k rest, t.store.list = .frame k :: rest → k ≠ e.slot → (s.slot k).state = .closed →
        linkSettled (s.slot k).link = true → (∀ j, j ≠ e.slot → (s.slot j).state ≠ .emitting) →
        (t.slot k).state = .emitting ∧ emittingSlot t = some k) ∧
      t.link.aborted = s.link.aborted ∧ t.link.pause = s.link.pause ∧ t.reg = s.reg ∧ t.defect = s.defect ∧
      t.shelf = s.shelf ∧
      (b = false → t.svc.queue = s.svc.queue ∧ t.svc.copies = s.svc.copies) ∧
      (b = true → t.svc.copies = 0 ∧
        (s.reels.waiting = [] → t.svc.queue = s.svc.queue.tail) ∧
        (∀ q, s.reels.waiting = [q] → (∀ x ∈ s.svc.queue.tail, x.notice = false) → (t.reel q).state = .free ∧
          t.svc.queue = s.svc.queue.tail ++ [⟨true, noticeWords s.link.lane (s.reel q)⟩])) ∧ sameTables s t) ∧
  (∀ (s : State) (e : Emission) (b : Bool), s.npor = true → s.store.emission = some e →
    s.link.inFlight = some ⟨.frameClose, b⟩ → (s.slot e.slot).state = .emitting → (s.slot e.slot).tag = none →
    (b = true → s.reels.waiting = []) →
    ∃ t, exec .emissionEnd s = .next t ∧ t.link.inFlight = none ∧ (t.slot e.slot).state = .free ∧
      t.store.list = s.store.list.filter (fun x => decide (x ≠ .frame e.slot)) ∧
      (∀ r, t.reel r = { s.reel r with counters := (t.reel r).counters } ∧
        sameFrameCounts (s.reel r).counters (t.reel r).counters) ∧
      (∀ j, sameFrame (s.slot j) (t.slot j)) ∧ (t.store.list = [] → t.store.emission = none ∧ t.repair = none) ∧
      t.reg = s.reg ∧ t.defect = s.defect ∧ t.shelf = s.shelf ∧
      t.svc.queue = (if b then s.svc.queue.tail else s.svc.queue) ∧ t.reels.last = s.reels.last ∧
      t.reels.waiting = s.reels.waiting ∧ t.reels.refused = s.reels.refused ∧ sameTables s t)

/-- The emission end of the last frame of a DRAINING reel disposes its record within the same event; EMISSION_END with no
FRAME_CLOSE under way changes nothing (as a command of its own, log 12). The first holds in a pause too, against R55's
remark (log 8), and where the cell carries a message's last copy as well, whose position is freed first (log 27). -/
def Obligations.LastEmissionDisposesTheReel : Prop :=
  (∀ (s : State) (e : Emission) (r : Fin 2) (d : ReelRecord) (b : Bool) (m : List Message), s.npor = true →
    s.store.emission = some e → s.link.inFlight = some ⟨.frameClose, b⟩ → (s.slot e.slot).state = .emitting →
    (s.slot e.slot).tag = some r → (s.reel r).state = .draining → storeCount s r = 1 →
    s.reels.waiting = [] → m = (if b then s.svc.queue.tail else s.svc.queue) → (∀ x ∈ m, x.notice = false) →
    d = { s.reel r with counters := { (s.reel r).counters with emitted := credit32 (s.reel r).counters.emitted 1 } } →
    ∃ t, exec .emissionEnd s = .next t ∧ (t.reel r).state = .free ∧
      t.reels.last = { (dispose s.shelf d).1 with state := .disposing } ∧ t.shelf = (dispose s.shelf d).2 ∧
      t.svc.queue = m ++ [⟨true, noticeWords s.link.lane t.reels.last⟩] ∧ t.reels.waiting = []) ∧
  (∀ s : State, s.npor = true → (∀ b, s.link.inFlight ≠ some ⟨.frameClose, b⟩) → exec .emissionEnd s = .next s)

/-- ENTER_DISPOSING disposes a DRAINING record with no frame left in the store; DISPOSITION_NOTICE queues the notice of the
record that waits longest once the position is free, copies it to the last-disposed record and frees it (as commands of
their own, log 12). The notice has the words of 11.3. -/
def Obligations.DisposingRecordIsNotifiedAndFreed : Prop :=
  (∀ (s : State) (r : Fin 2), s.npor = true → (s.reel r).state = .draining → storeCount s r = 0 →
    (∀ q, q ≠ r → (s.reel q).state ≠ .draining) →
    ∃ t d, exec .enterDisposing s = .next t ∧ d = { (dispose s.shelf (s.reel r)).1 with state := .disposing } ∧
      t.shelf = (dispose s.shelf (s.reel r)).2 ∧
      (noticeFree s = true → s.reels.waiting = [] →
        t.reel r = { d with state := .free } ∧ t.reels.last = d ∧ t.reels.waiting = [] ∧
        t.svc.queue = s.svc.queue ++ [⟨true, noticeWords s.link.lane d⟩]) ∧
      (noticeFree s = false → t.reel r = d ∧ t.reels.last = s.reels.last ∧ t.reels.waiting = s.reels.waiting ++ [r] ∧
        t.svc.queue = s.svc.queue) ∧
      ((dispose s.shelf (s.reel r)).1.outcome = .placed →
        t.xport.hyst = hystAfter t.shelf.placements.length s.xport.hyst) ∧
      ((dispose s.shelf (s.reel r)).1.outcome ≠ .placed → t.xport.hyst = s.xport.hyst) ∧
      t.store = s.store ∧ t.link = s.link ∧ t.reg = s.reg ∧ t.defect = s.defect ∧ t.grade = s.grade ∧
      t.reels.refused = s.reels.refused) ∧
  (∀ s : State, s.npor = true →
    (∀ r rest, s.reels.waiting = r :: rest → noticeFree s = true →
      ∃ t, exec .dispositionNotice s = .next t ∧ t.reel r = { s.reel r with state := .free } ∧
        t.reels.last = { s.reel r with state := .disposing } ∧ t.reels.waiting = rest ∧
        (∀ q, q ≠ r → t.reel q = s.reel q) ∧
        t.svc.queue = s.svc.queue ++ [⟨true, noticeWords s.link.lane (s.reel r)⟩] ∧
        t.store = s.store ∧ t.link = s.link ∧ t.reg = s.reg ∧ t.defect = s.defect ∧ t.grade = s.grade ∧
        t.shelf = s.shelf) ∧
    (s.loadHoldSettled → (noticeFree s = false ∨ s.reels.waiting = []) → exec .dispositionNotice s = .next s)) ∧
  (∀ (lane : BitVec 4) (r : ReelRecord), r.placementId ≤ 255 → r.bay ≤ 63 → noticeLayout lane r (noticeWords lane r))

/-- ACQ_TIMEOUT, EXPOSURE_ADOPTION and TRACK_RETIRE act on the frame being closed, if their condition holds, and change
nothing otherwise (as commands of their own, log 12). -/
def Obligations.CloseEventsActOnTheClosingFrame : Prop :=
  (∀ (s : State) (k : Fin 4) (r : Fin 2), s.npor = true → s.loadHoldSettled → s.link.rx = .filling k →
    (s.slot k).tag = some r → (s.slot k).lineCount = (s.reel r).header.lines → (s.reel r).isActive = true →
    (collecting (s.reel r) = true → (s.slot k).latch.reg.acqTimeout ≤ s.reg.sinceOpen →
      ∃ t, exec .acqTimeout s = .next t ∧
        ((s.slot k).latch.reg.acqMin ≤ s.reg.count → (t.reel r).state = .active .locked ∧
          (t.reel r).acqOutcome = .locked ∧
          (t.reel r).reelPitch = (s.reg.sum + s.reg.count / 2) / s.reg.count ∧
          (t.reel r).reelShrinkage = some (shrinkage (t.reel r).reelPitch (s.slot k).latch.reg.unshrunkPitch) ∧
          t.svc.causes.acqFailed = s.svc.causes.acqFailed) ∧
        (s.reg.count < (s.slot k).latch.reg.acqMin → (t.reel r).state = .active .failed ∧
          (t.reel r).acqOutcome = .failed ∧ t.svc.causes.acqFailed = true) ∧
        (t.reel r).counters = (s.reel r).counters ∧ t.store = s.store ∧ t.reg = s.reg ∧ t.defect = s.defect ∧
        t.grade = s.grade ∧ t.shelf = s.shelf ∧ t.link = s.link) ∧
    ((s.reg.sinceOpen < (s.slot k).latch.reg.acqTimeout ∨ collecting (s.reel r) = false) →
      exec .acqTimeout s = .next s) ∧
    (4 ≤ s.xport.mismatch → ∃ t, exec .exposureAdoption s = .next t ∧
      t = { s with
        xport := { s.xport with cmdStep := (s.slot k).repStep, stale := true, mismatch := 0 }
        svc := if s.xport.stale = false ∧ s.svc.mask.getLsbD 9 = true then
            { s.svc with summary := true, causes := { s.svc.causes with condChange := true } }
          else s.svc }) ∧
    (s.xport.mismatch < 4 → exec .exposureAdoption s = .next s) ∧
    (∃ t, exec .trackRetire s = .next t ∧
      t.defect = { s.defect with tracks := s.defect.tracks.filter fun x => !retires (s.slot k).latch.defect x } ∧
      (t.reel r).counters.scratches = credit32 (s.reel r).counters.scratches
        (s.defect.tracks.filter (retires (s.slot k).latch.defect)).length ∧
      (t.reel r).counters.opened = (s.reel r).counters.opened ∧ (t.reel r).state = (s.reel r).state ∧
      t.store = s.store ∧ t.reg = s.reg ∧ t.xport = s.xport ∧ t.grade = s.grade ∧ t.shelf = s.shelf ∧
      t.link = s.link ∧ t.svc = s.svc)) ∧
  (∀ s : State, (∀ k r, s.link.rx = .filling k → (s.slot k).tag = some r →
      (s.slot k).lineCount ≠ (s.reel r).header.lines) →
    exec .acqTimeout s = .next s ∧ exec .exposureAdoption s = .next s ∧ exec .trackRetire s = .next s)

/-! ## The verbs -/

/-- A message that finds no reply position free does not execute and records REPLY_FULL; one of no request verb is answered
BAD_VERB, and one whose body has another length than its verb's BAD_LENGTH; none of them changes anything else. A RESET with
an empty body passes. The verb commands are complete messages (log 10); a message of no request verb has no command, and is
stated of the SERVICE cell that completes it. -/
def Obligations.MessagesAreRefusedWithoutEffect : Prop :=
  (∀ (s : State) (v : Verb) (tag : Byte) (body : List Word), s.npor = true → ¬(v = .reset ∧ body = []) →
    (replyFree s = false → exec (verbCommand v tag body) s = .next (s.faulted .replyFull)) ∧
    (replyFree s = true → lengthOk v body.length = false →
      exec (verbCommand v tag body) s = .next (s.answered v tag [2]))) ∧
  (∀ (s : State) (code tag : Byte) (w : Word), s.npor = true → s.loadHoldSettled → s.svc.pair = .haveFirst w →
    (code.toNat = 0 ∨ 13 < code.toNat) →
    ((s.svc.framing = .waiting ∧ w = startWord code.toNat 0 tag.toNat) ∨
      ∃ n b c, n ≤ 62 ∧ s.svc.framing = .collecting (startWord code.toNat n tag.toNat :: b) 1 c) →
    (replyFree s = false → exec (.serviceCell s.link.pause true w) s = .next (s.faulted .replyFull)) ∧
    (replyFree s = true → exec (.serviceCell s.link.pause true w) s = .next (s.replied code.toNat tag [1])))

/-- IDENTIFY, CHECKSUM, READ_REEL and READ_TABLE answer with the part's identity, the stored checksum, a record's words and
a table's words as held, or BAD_INDEX, and change nothing. A record's words have the layout of 11.3, field by field. -/
def Obligations.ReadingVerbsAnswerAndChangeNothing : Prop :=
  (∀ (s : State) (tag : Byte) (w x y : Word), s.npor = true → s.loadHoldSettled → replyFree s = true →
    exec (.identify tag []) s =
      .next (s.answered .identify tag [0, 0x00000412, 0x00000001, natWord s.link.lane.toNat]) ∧
    exec (.checksum tag []) s = .next (s.answered .checksum tag [0, natWord s.grade.progCheck.toNat]) ∧
    exec (.readReel tag [0]) s = .next (s.answered .readReel tag (0 :: reelWords (s.reel 0))) ∧
    exec (.readReel tag [1]) s = .next (s.answered .readReel tag (0 :: reelWords (s.reel 1))) ∧
    exec (.readReel tag [2]) s = .next (s.answered .readReel tag (0 :: reelWords s.reels.last)) ∧
    (2 < w.toNat → exec (.readReel tag [w]) s = .next (s.answered .readReel tag [3])) ∧
    (1 ≤ w.toNat → w.toNat ≤ 7 → 1 ≤ y.toNat → y.toNat ≤ 61 → x.toNat + y.toNat ≤ tableLength w.toNat →
      exec (.readTable tag [w, x, y]) s = .next (s.answered .readTable tag
        (0 :: ((tableWords s w.toNat).drop x.toNat).take y.toNat))) ∧
    (w.toNat = 0 ∨ 7 < w.toNat ∨ y.toNat = 0 ∨ 61 < y.toNat ∨ tableLength w.toNat < x.toNat + y.toNat →
      exec (.readTable tag [w, x, y]) s = .next (s.answered .readTable tag [3]))) ∧
  (∀ r : ReelRecord, r.fitsItsFields → reelLayout r (reelWords r))

/-- READ_STATUS answers with the condition word, the fault record, the counters and the pending causes, and clears them;
CONDITION_CHANGE is not raised by its clearing of RESET_SEEN. -/
def Obligations.ReadStatusReturnsAndClears : Prop :=
  ∀ (s : State) (tag : Byte), s.npor = true → replyFree s = true → ∃ t, exec (.readStatus tag []) s = .next t ∧
    t.svc.queue = s.svc.queue ++ [⟨false, replyWords 2 tag (0 :: statusReply s)⟩] ∧
    (∃ a b c d e, statusReply s = [a, b, c, d, e] ∧ a.toNat = (conditionWord s).toNat ∧
      (s.svc.faultCount ≤ 255 → b.toNat = faultCode s.svc.faultKind * 2 ^ 24 + s.svc.faultCount) ∧
      (s.link.errors ≤ 65535 → s.reels.refused ≤ 65535 → c.toNat = s.link.errors * 2 ^ 16 + s.reels.refused) ∧
      (s.svc.stray ≤ 65535 → d.toNat = s.svc.stray) ∧ e.toNat = 2 * bitsNat (causeBits s)) ∧
    t.link = { s.link with errors := 0 } ∧ t.reels = { s.reels with refused := 0 } ∧ t.svc.stray = 0 ∧
    t.svc.faultKind = .none ∧ t.svc.faultCount = 0 ∧ t.svc.resetSeen = false ∧ t.svc.summary = false ∧
    t.svc.causes = ⟨false, false, false, false, false, false⟩ ∧ t.svc.mask = s.svc.mask ∧
    t.svc.copies = s.svc.copies ∧ t.svc.framing = .waiting ∧ t.svc.pair = .expectFirst ∧
    attentionCode t = (if s.xport.hyst then 6 else 0) ∧
    t.store = s.store ∧ t.reg = s.reg ∧ t.xport = s.xport ∧ t.defect = s.defect ∧ t.repair = s.repair ∧
    t.grade = s.grade ∧ t.shelf = s.shelf

/-- SET_MASK replaces the condition mask by the word's low eleven bits, and TRIM writes the clamped gains and offsets into
the pending trim with a count of the clamped ones; neither changes anything else. -/
def Obligations.SetMaskAndTrimWriteTheirRegisters : Prop :=
  ∀ (s : State) (tag : Byte) (w : Word) (g0 g1 g2 o0 o1 o2 : Word), s.npor = true → s.loadHoldSettled →
    replyFree s = true →
    exec (.setMask tag [w]) s =
      .next { s.answered .setMask tag [0] with svc := { (s.answered .setMask tag [0]).svc with mask := w.setWidth 11 } } ∧
    ∃ t n, exec (.trim tag [g0, g1, g2, o0, o1, o2]) s = .next t ∧
      n = (if 8191 < g0.toNat then 1 else 0) + (if 8191 < g1.toNat then 1 else 0) +
        (if 8191 < g2.toNat then 1 else 0) + (if o0.toInt < -4096 ∨ 4095 < o0.toInt then 1 else 0) +
        (if o1.toInt < -4096 ∨ 4095 < o1.toInt then 1 else 0) +
        (if o2.toInt < -4096 ∨ 4095 < o2.toInt then 1 else 0) ∧
      t = { s.answered .trim tag [0, natWord n] with grade := t.grade } ∧
      t.grade = { s.grade with pendingTrim := t.grade.pendingTrim, written := true } ∧
      t.grade.pendingTrim.gain = ⟨min 8191 g0.toNat, min 8191 g1.toNat, min 8191 g2.toNat⟩ ∧
      t.grade.pendingTrim.offset =
        ⟨clampInt (-4096) 4095 o0.toInt, clampInt (-4096) 4095 o1.toInt, clampInt (-4096) 4095 o2.toInt⟩

/-- SELECT_GRADE is LOCKED while a record is occupied (naming the set already selected too: log 24), and otherwise selects
FIXED for 0 and PROGRAMMED for any other value; SET_CEILING writes the ceiling, S3 for a value above 3, and slows the class
to it, or sets it to it with no record ACTIVE. -/
def Obligations.SelectGradeAndSetCeiling : Prop :=
  (∀ (s : State) (tag : Byte) (w : Word), s.npor = true → s.loadHoldSettled → replyFree s = true →
    (anyOccupied s = true → exec (.selectGrade tag [w]) s = .next (s.answered .selectGrade tag [4])) ∧
    (anyOccupied s = false → ∃ t, exec (.selectGrade tag [w]) s = .next t ∧
      t.svc.queue = (s.answered .selectGrade tag [0]).svc.queue ∧
      t.grade = { s.grade with sel := t.grade.sel } ∧ (t.grade.sel = .fixed ↔ w = 0) ∧
      t.store = s.store ∧ t.reels = s.reels ∧ t.reg = s.reg ∧ t.xport = s.xport ∧ t.defect = s.defect ∧
      t.shelf = s.shelf ∧ t.link = s.link ∧ t.svc.mask = s.svc.mask ∧
      (t.grade.sel ≠ s.grade.sel → s.svc.mask.getLsbD 6 = true → t.svc.summary = true ∧
        t.svc.causes.condChange = true))) ∧
  (∀ (s : State) (tag : Byte) (w : Word), s.npor = true → s.loadHoldSettled → replyFree s = true →
    ∃ t, exec (.setCeiling tag [w]) s = .next t ∧
      t.svc.queue = (s.answered .setCeiling tag [0, if w.toNat ≤ 3 then 0 else 1]).svc.queue ∧
      rank t.xport.ceiling = min 3 w.toNat ∧
      (activeRec s = none → t.xport.cls = t.xport.ceiling) ∧
      (∀ r, activeRec s = some r → rank t.xport.cls = max (rank s.xport.cls) (min 3 w.toNat)) ∧
      t.xport = { s.xport with ceiling := t.xport.ceiling, cls := t.xport.cls } ∧
      t.store = s.store ∧ t.reels = s.reels ∧ t.reg = s.reg ∧ t.defect = s.defect ∧ t.grade = s.grade ∧
      t.shelf = s.shelf ∧ t.link = s.link ∧ t.svc.mask = s.svc.mask)

/-- WRITE_TABLE refuses an index outside the writable tables and a locked programmed set, changing nothing; otherwise the
words it names read back as written or clamped, the other words and the other tables as before. The reply's count of clamped
words takes a policy target class of 0 as clamped to 1 (the model's reading, log 13). -/
def Obligations.WriteTableHoldsTheClampedWords : Prop :=
  ∀ (s : State) (tag : Byte) (id start : Word) (values : List Word), s.npor = true → s.loadHoldSettled →
    replyFree s = true → 1 ≤ values.length → values.length ≤ 60 →
    ((id.toNat = 0 ∨ 6 < id.toNat ∨ tableLength id.toNat < start.toNat + values.length) →
      exec (.writeTable tag (id :: start :: values)) s = .next (s.answered .writeTable tag [3])) ∧
    (id = 4 → start.toNat + values.length ≤ 223 → s.grade.sel = .programmed → anyOccupied s = true →
      exec (.writeTable tag (id :: start :: values)) s = .next (s.answered .writeTable tag [4])) ∧
    (1 ≤ id.toNat → id.toNat ≤ 6 → start.toNat + values.length ≤ tableLength id.toNat →
      (id ≠ 4 ∨ s.grade.sel = .fixed ∨ anyOccupied s = false) →
      ∃ t, exec (.writeTable tag (id :: start :: values)) s = .next t ∧
        t.svc.queue = (s.answered .writeTable tag
          [0, natWord (clampedCount id.toNat start.toNat values)]).svc.queue ∧
        (∀ i w, values[i]? = some w →
          (tableWords t id.toNat)[start.toNat + i]? = some (heldWord id.toNat (start.toNat + i) w)) ∧
        (∀ i, (i < start.toNat ∨ start.toNat + values.length ≤ i) →
          (tableWords t id.toNat)[i]? = (tableWords s id.toNat)[i]?) ∧
        (∀ j, j ≠ id.toNat → tableWords t j = tableWords s j) ∧
        t.store = s.store ∧ t.reels = s.reels ∧ t.link = s.link ∧ t.xport.cls = s.xport.cls ∧
        t.xport.cmdStep = s.xport.cmdStep ∧ t.grade.sel = s.grade.sel ∧ t.grade.trim = s.grade.trim ∧
        t.shelf.placements = s.shelf.placements ∧ t.shelf.nextId = s.shelf.nextId ∧ t.svc.mask = s.svc.mask ∧
        (id = 4 → t.grade.progCheck = gradeChecksum t.grade.prog.toList) ∧
        (id ≠ 4 → t.grade = s.grade))

/-- PLACE_CONFIRM takes the entry that holds the id out of the list and raises its bay's occupied count; with no such entry
it answers NOT_PENDING and changes nothing. -/
def Obligations.PlaceConfirmShelvesTheReel : Prop :=
  ∀ (s : State) (tag : Byte) (w : Word), s.npor = true → s.loadHoldSettled → replyFree s = true →
    ((∀ p ∈ s.shelf.placements, p.id ≠ w.toNat) →
      exec (.placeConfirm tag [w]) s = .next (s.answered .placeConfirm tag [5])) ∧
    (∀ a p b, s.shelf.placements = a ++ p :: b → (∀ q ∈ a, q.id ≠ w.toNat) → p.id = w.toNat →
      ∃ t, exec (.placeConfirm tag [w]) s = .next t ∧
        t.svc.queue = (s.answered .placeConfirm tag [0]).svc.queue ∧ t.shelf.placements = a ++ b ∧
        t.shelf.bays.get p.bay = { s.shelf.bays.get p.bay with
          occupied := satAdd 4095 (s.shelf.bays.get p.bay).occupied 1 } ∧
        (∀ c, c ≠ p.bay → t.shelf.bays.get c = s.shelf.bays.get c) ∧ t.shelf.policy = s.shelf.policy ∧
        t.shelf.nextId = s.shelf.nextId ∧
        t.xport.hyst = (if 12 ≤ a.length + b.length then true else if a.length + b.length ≤ 4 then false
          else s.xport.hyst) ∧
        t.store = s.store ∧ t.reels = s.reels ∧ t.reg = s.reg ∧ t.defect = s.defect ∧ t.grade = s.grade ∧
        t.link = s.link ∧ t.svc.mask = s.svc.mask)

/-- PLACE_REFUSE holds the bay; a first refusal re-plans the entry in its place to another bay or removes it for want of
one, a second removes it; a removal moves the load-hold flag by the new count; with no such entry it answers NOT_PENDING and
changes nothing. -/
def Obligations.PlaceRefuseReplansOrRemoves : Prop :=
  ∀ (s : State) (tag : Byte) (w : Word), s.npor = true → s.loadHoldSettled → replyFree s = true →
    ((∀ p ∈ s.shelf.placements, p.id ≠ w.toNat) →
      exec (.placeRefuse tag [w]) s = .next (s.answered .placeRefuse tag [5])) ∧
    (∀ a p b held, s.shelf.placements = a ++ p :: b → (∀ q ∈ a ++ b, q.id ≠ w.toNat) → p.id = w.toNat →
      held = holdBay s.shelf p.bay →
      ∃ t, exec (.placeRefuse tag [w]) s = .next t ∧ t.shelf.bays = held.bays ∧
        held.bays.get p.bay = { s.shelf.bays.get p.bay with refusalHold := true } ∧
        (∀ c, c ≠ p.bay → held.bays.get c = s.shelf.bays.get c) ∧ t.shelf.policy = s.shelf.policy ∧
        t.shelf.nextId = s.shelf.nextId ∧
        (2 ≤ p.attempts → t.shelf.placements = a ++ b ∧
          t.xport.hyst = (if 12 ≤ a.length + b.length then true else if a.length + b.length ≤ 4 then false
          else s.xport.hyst) ∧
          t.svc.queue = (s.answered .placeRefuse tag (0 :: refusalWords p none .refusedTwice)).svc.queue) ∧
        (p.attempts < 2 → chooseBay held p.base p.cls p.hold = none → t.shelf.placements = a ++ b ∧
          t.xport.hyst = (if 12 ≤ a.length + b.length then true else if a.length + b.length ≤ 4 then false
          else s.xport.hyst) ∧
          t.svc.queue = (s.answered .placeRefuse tag (0 :: refusalWords p none .noBay)).svc.queue) ∧
        (∀ c, p.attempts < 2 → chooseBay held p.base p.cls p.hold = some c → c ≠ p.bay ∧
          t.shelf.placements = a ++ { p with bay := c, attempts := 2 } :: b ∧ t.xport = s.xport ∧
          t.svc.queue = (s.answered .placeRefuse tag (0 :: refusalWords p (some c) .none)).svc.queue) ∧
        t.store = s.store ∧ t.reels = s.reels ∧ t.reg = s.reg ∧ t.defect = s.defect ∧ t.grade = s.grade ∧
        t.link = s.link)

/-! ## Dispositions and placements -/

/-- R163: an evaluation starts at class A with no flag, an action only worsens or sets, what an entry that does not fire does
is nothing, and two firing actions give the same results in either order. -/
def Obligations.PolicyOnlyWorsens : Prop :=
  (∀ s r, policyOf s r = evalPolicy r s.policy.toList false ⟨.classA, false, false⟩) ∧
  (∀ r es prev p, classCode p.cls ≤ classCode (evalPolicy r es prev p).cls ∧
    (p.hold = true → (evalPolicy r es prev p).hold = true) ∧
    (p.rescan = true → (evalPolicy r es prev p).rescan = true)) ∧
  (∀ e p, (e.action = .none → fireAction e p = p) ∧
    (e.action = .worsen → classCode (fireAction e p).cls = max (classCode p.cls) (classCode (targetClass e.target)) ∧
      (fireAction e p).hold = p.hold ∧ (fireAction e p).rescan = p.rescan) ∧
    (e.action = .hold → fireAction e p = { p with hold := true }) ∧
    (e.action = .rescan → fireAction e p = { p with rescan := true })) ∧
  (∀ e p res, res ≠ !e.whenFalse → judgeEntry e res p = p) ∧
  (∀ e f p, fireAction e (fireAction f p) = fireAction f (fireAction e p))

/-- R168: the bay choice is the eligible bay with the largest free count, the lowest-numbered among equals, and none exactly
when no bay is eligible. -/
def Obligations.BayChoiceTakesTheMostRoom : Prop :=
  ∀ (s : Shelving) (base : BaseType) (c : CondClass) (hold : Bool),
    (∀ b, chooseBay s base c hold = some b ↔
      eligible s base c hold b = true ∧ ∀ a, eligible s base c hold a = true →
        freeCount s a < freeCount s b ∨ (freeCount s a = freeCount s b ∧ b ≤ a)) ∧
    (chooseBay s base c hold = none ↔ ∀ a, eligible s base c hold a = false)

/-- A disposition ends RESCAN, UNPLACED as a duplicate, with a full list or with no bay, or PLACED; only PLACED appends an
entry and leaves a bay and an id in the record. -/
def Obligations.DispositionHasFiveEnds : Prop :=
  ∀ (s : Shelving) (r d : ReelRecord) (u : Shelving) (p : PolicyResult), dispose s r = (d, u) → p = policyOf s r →
    (d.finalClass = p.cls ∧ d.hold = p.hold ∧ d.rescan = p.rescan ∧ d.counters = r.counters ∧ d.header = r.header) ∧
    (d.outcome ≠ .placed → u = s ∧ d.bay = 0 ∧ d.placementId = 0) ∧
    (p.rescan = true → d.outcome = .rescan ∧ d.reason = .none) ∧
    (p.rescan = false → (∃ q ∈ s.placements, q.reelId = r.header.reelId) →
      d.outcome = .unplaced ∧ d.reason = .duplicate) ∧
    (p.rescan = false → (∀ q ∈ s.placements, q.reelId ≠ r.header.reelId) →
      (16 ≤ s.placements.length → d.outcome = .unplaced ∧ d.reason = .listFull) ∧
      (s.placements.length < 16 →
        (chooseBay s r.header.base p.cls p.hold = none → d.outcome = .unplaced ∧ d.reason = .noBay) ∧
        (∀ b, chooseBay s r.header.base p.cls p.hold = some b →
          d.outcome = .placed ∧ d.reason = .none ∧ d.bay = b.val ∧ d.placementId = takeId s ∧ u.bays = s.bays ∧
          u.policy = s.policy ∧
          u.placements = s.placements ++ [⟨takeId s, r.header.reelId, b, p.cls, r.header.base, p.hold, 1⟩])))

/-- R171: an append takes the first id from the next placement id on, wrapping from 255 to 1, that no entry holds; the next id
follows it; nothing else moves it; it is 1 after power-on and kept by RESET. -/
def Obligations.PlacementIdIsTheFirstFree : Prop :=
  (∀ s : Shelving, s.placements.length ≤ 16 → 1 ≤ s.nextId → s.nextId ≤ 255 →
    ∃ n, n ≤ 16 ∧ takeId s = (s.nextId - 1 + n) % 255 + 1 ∧ (∀ p ∈ s.placements, p.id ≠ takeId s) ∧
      ∀ m < n, ∃ p ∈ s.placements, p.id = (s.nextId - 1 + m) % 255 + 1) ∧
  (∀ s r p b, (appendPlacement s r p b).nextId = (if 255 ≤ takeId s then 1 else takeId s + 1) ∧
    ∃ q, (appendPlacement s r p b).placements = s.placements ++ [q] ∧ q.id = takeId s) ∧
  (∀ s r, (dispose s r).1.outcome ≠ .placed → (dispose s r).2.nextId = s.nextId) ∧
  (∀ s p, (refusePlacement s p).1.nextId = s.nextId ∧ (confirmPlacement s p).nextId = s.nextId ∧
    ∀ b, (refusePlacement s p).2.1 = some b →
      (refusePlacement s p).1.placements.map (·.id) = s.placements.map (·.id)) ∧
  (∀ lane, (powerOnState lane).shelf.nextId = 1) ∧
  (∀ s tag t, exec (.reset tag []) s = .next t → t.shelf.nextId = s.shelf.nextId)

/-! ## Frame computations -/

/-- A hole's slot is the nearest whole number of pitches from the reference; the offsets never pass the shift limit, and a held
frame leaves the reference and the last good offsets as they were. -/
def Obligations.OffsetsComeFromTheNearestSlots : Prop :=
  (∀ p16 ref16 top : Nat, 0 < p16 → -(p16 : Int) ≤ 2 * holeDev p16 ref16 top ∧
    2 * holeDev p16 ref16 top ≤ p16 ∧
    ∀ i : Int, (holeDev p16 ref16 top).natAbs ≤ ((top : Int) * 16 - ref16 - i * p16).natAbs) ∧
  (∀ (t : RegTable) (p16 e : Nat) (used : List Hole) (u : RegUnit),
    (measure t p16 e used u).dx.natAbs ≤ t.maxShift ∧ (measure t p16 e used u).dy.natAbs ≤ t.maxShift ∧
    (frameHeld t used.length e = true → (measure t p16 e used u).ref = u.ref ∧
      (measure t p16 e used u).goodDx = u.goodDx ∧ (measure t p16 e used u).goodDy = u.goodDy ∧
      (measure t p16 e used u).sample = none))

/-- An interpolated sample lies between its two flanks. -/
def Obligations.InterpolationStaysBetweenTheFlanks : Prop :=
  ∀ (a b : Sample) (n t : Nat), 0 < n → t ≤ n →
    min a.toNat b.toNat ≤ (interpSample a b n t).toNat ∧ (interpSample a b n t).toNat ≤ max a.toNat b.toNat ∧
    interpSample a b n 0 = a ∧ interpSample a b n n = b

/-- The areas of the repairs a plan keeps sum to at most the pixel budget; a plan names a method for every region, and its
two counts share them out. -/
def Obligations.RepairPlanKeepsTheBudget : Prop :=
  ∀ (h : ReelHeader) (k : Fin 4) (n : Slot) (pred succ : Option (Fin 4 × Slot)) (p : Plan),
    p = makePlan h k n pred succ →
    p.methods.length = n.regions.length ∧ p.repaired + p.unrepaired = n.regions.length ∧
    (((p.methods.zip n.regions).filter fun x => repairing x.1).map fun x => regionArea x.2).sum ≤
      n.latch.defect.pixelBudget ∧
    (p.cut = true ↔ .noneBudget ∈ p.methods) ∧
    (pred = none → .substPrev ∉ p.methods) ∧ (succ = none → .substNext ∉ p.methods)

/-- The fixed grade set with the identity trim and an unmoved fade passes every pixel as stored. -/
def Obligations.FixedSetPassesEveryPixel : Prop :=
  ∀ p : Pixel, gradePixel fixedSet ⟨⟨0, 16384⟩, ⟨0, 16384⟩, ⟨0, 16384⟩⟩ identityTrim p = p

/-- A channel's gain after a close lies between gmin and the larger of gmin and gmax, and a smoothed gain moves toward its
target without passing it. -/
def Obligations.FadeGainStaysInItsBounds : Prop :=
  (∀ (p : FadeParams) (h : Vector Nat 64) (c : ChannelFade),
    p.gmin ≤ (fadeChannel p h c).gain ∧ (fadeChannel p h c).gain ≤ max p.gmin p.gmax) ∧
  (∀ k prev target : Nat, min prev target ≤ fadeMove k prev target ∧ fadeMove k prev target ≤ max prev target)

/-! ## Invariants of the whole part -/

/-- The state after power-on has every invariant below. -/
def Obligations.PowerOnHasEveryInvariant : Prop :=
  State.reset.loadHoldSettled ∧ State.reset.hystFollowsCount ∧ State.reset.withinCeiling ∧
  State.reset.countersInRange ∧ State.reset.queueInRange ∧ State.reset.listsInRange ∧ State.reset.framingInRange ∧
  State.reset.waitingServed ∧ State.reset.framesAccounted ∧ State.reset.placementsApart ∧ State.reset.tracksApart ∧
  State.reset.tablesInRange ∧ State.reset.checksumCurrent

/-- LOAD_HOLD is on exactly while the hysteresis flag is on or both records are occupied; the flag is on from 12 placements
and off to 4; no step breaks this, and condition bit 3 follows. -/
def Obligations.LoadHoldFollowsFlagAndRecords : Prop :=
  (∀ s t : State, s.loadHoldSettled → step s = .next t → t.loadHoldSettled) ∧
  (∀ s t : State, s.hystFollowsCount → step s = .next t → t.hystFollowsCount) ∧
  (∀ s : State, s.loadHoldSettled → s.hystFollowsCount →
    (12 ≤ s.shelf.placements.length ∨ bothOccupied s = true → s.xport.loadHold = true) ∧
    (s.shelf.placements.length ≤ 4 → bothOccupied s = false → s.xport.loadHold = false)) ∧
  (∀ s : State, (conditionWord s).getLsbD 3 = s.xport.loadHold)

/-- No step makes the class faster than the ceiling, or takes a counter that READ_STATUS returns, the reply queue, the receive
buffer, the placement list, the track list, the control entries or a region table over its limit. -/
def Obligations.LimitsAreKept : Prop :=
  (∀ s t : State, s.withinCeiling → step s = .next t → t.withinCeiling) ∧
  (∀ s : State, (conditionWord s).getLsbD 2 = decide (s.xport.cls ≠ .s0)) ∧
  (∀ s t : State, s.countersInRange → step s = .next t → t.countersInRange) ∧
  (∀ s t : State, s.queueInRange → step s = .next t → t.queueInRange) ∧
  (∀ s t : State, s.framingInRange → step s = .next t → t.framingInRange) ∧
  (∀ s t : State, s.listsInRange → step s = .next t → t.listsInRange)

/-- No step leaves a DISPOSING record that does not wait for the notice position, or one that waits while the position is
free. -/
def Obligations.DisposingRecordsWaitForTheNotice : Prop :=
  ∀ s t : State, s.waitingServed → step s = .next t → t.waitingServed

/-- Every frame is accounted for: no step breaks the agreement of slots, emission list, records and frame counters. -/
def Obligations.FramesAreAccountedFor : Prop :=
  ∀ s t : State, s.waitingServed → s.framesAccounted → step s = .next t → t.framesAccounted

/-- No step gives two placements one id or one reel. -/
def Obligations.PlacementsStayApart : Prop :=
  ∀ s t : State, s.placementsApart → step s = .next t → t.placementsApart

/-- No step gives two scratch tracks overlapping spans. -/
def Obligations.TracksStayApart : Prop :=
  ∀ s t : State, s.tracksApart → step s = .next t → t.tracksApart

/-- No step takes a value of tables 1 to 6 out of its range, or leaves the stored checksum behind the programmed set. -/
def Obligations.TablesAndChecksumStayInOrder : Prop :=
  (∀ s t : State, s.tablesInRange → step s = .next t → t.tablesInRange) ∧
  (∀ s t : State, s.checksumCurrent → step s = .next t → t.checksumCurrent)
end

