-- ==== Sys2Proof/Laws/State.lean ====
section
/-! SUPPORT. What each elementary update of the state leaves alone, one lemma per field, and what it writes. -/
namespace Sys2Proof.Machine

-- One thread a theorem is too many for the joined text under its memory limit.
set_option Elab.async false

/-! ## A reel record changed -/

@[simp] theorem updReel_pending (r : Fin 2) (f : ReelRecord → ReelRecord) (s : State) :
    (updReel r f s).pending = s.pending := rfl
@[simp] theorem updReel_npor (r : Fin 2) (f : ReelRecord → ReelRecord) (s : State) :
    (updReel r f s).npor = s.npor := rfl
@[simp] theorem updReel_link (r : Fin 2) (f : ReelRecord → ReelRecord) (s : State) :
    (updReel r f s).link = s.link := rfl
@[simp] theorem updReel_store (r : Fin 2) (f : ReelRecord → ReelRecord) (s : State) :
    (updReel r f s).store = s.store := rfl
@[simp] theorem updReel_reg (r : Fin 2) (f : ReelRecord → ReelRecord) (s : State) :
    (updReel r f s).reg = s.reg := rfl
@[simp] theorem updReel_xport (r : Fin 2) (f : ReelRecord → ReelRecord) (s : State) :
    (updReel r f s).xport = s.xport := rfl
@[simp] theorem updReel_defect (r : Fin 2) (f : ReelRecord → ReelRecord) (s : State) :
    (updReel r f s).defect = s.defect := rfl
@[simp] theorem updReel_repair (r : Fin 2) (f : ReelRecord → ReelRecord) (s : State) :
    (updReel r f s).repair = s.repair := rfl
@[simp] theorem updReel_grade (r : Fin 2) (f : ReelRecord → ReelRecord) (s : State) :
    (updReel r f s).grade = s.grade := rfl
@[simp] theorem updReel_shelf (r : Fin 2) (f : ReelRecord → ReelRecord) (s : State) :
    (updReel r f s).shelf = s.shelf := rfl
@[simp] theorem updReel_svc (r : Fin 2) (f : ReelRecord → ReelRecord) (s : State) :
    (updReel r f s).svc = s.svc := rfl
@[simp] theorem updReel_last (r : Fin 2) (f : ReelRecord → ReelRecord) (s : State) :
    (updReel r f s).reels.last = s.reels.last := rfl
@[simp] theorem updReel_waiting (r : Fin 2) (f : ReelRecord → ReelRecord) (s : State) :
    (updReel r f s).reels.waiting = s.reels.waiting := rfl
@[simp] theorem updReel_refused (r : Fin 2) (f : ReelRecord → ReelRecord) (s : State) :
    (updReel r f s).reels.refused = s.reels.refused := rfl
/-- The named record takes its new value and the other keeps its own. -/
@[simp] theorem updReel_reel (r q : Fin 2) (f : ReelRecord → ReelRecord) (s : State) :
    (updReel r f s).reel q = if q = r then f (s.reel r) else s.reel q := by
  simp only [State.reel, updReel, Vector.get_eq_getElem, Vector.getElem_set, Fin.ext_iff]
  split <;> simp_all [eq_comm]
@[simp] theorem updReel_slot (r : Fin 2) (f : ReelRecord → ReelRecord) (s : State) (k : Fin 4) :
    (updReel r f s).slot k = s.slot k := rfl

/-! ## A slot changed -/

@[simp] theorem updSlot_pending (k : Fin 4) (f : Slot → Slot) (s : State) :
    (updSlot k f s).pending = s.pending := rfl
@[simp] theorem updSlot_npor (k : Fin 4) (f : Slot → Slot) (s : State) :
    (updSlot k f s).npor = s.npor := rfl
@[simp] theorem updSlot_link (k : Fin 4) (f : Slot → Slot) (s : State) :
    (updSlot k f s).link = s.link := rfl
@[simp] theorem updSlot_reels (k : Fin 4) (f : Slot → Slot) (s : State) :
    (updSlot k f s).reels = s.reels := rfl
@[simp] theorem updSlot_reg (k : Fin 4) (f : Slot → Slot) (s : State) :
    (updSlot k f s).reg = s.reg := rfl
@[simp] theorem updSlot_xport (k : Fin 4) (f : Slot → Slot) (s : State) :
    (updSlot k f s).xport = s.xport := rfl
@[simp] theorem updSlot_defect (k : Fin 4) (f : Slot → Slot) (s : State) :
    (updSlot k f s).defect = s.defect := rfl
@[simp] theorem updSlot_repair (k : Fin 4) (f : Slot → Slot) (s : State) :
    (updSlot k f s).repair = s.repair := rfl
@[simp] theorem updSlot_grade (k : Fin 4) (f : Slot → Slot) (s : State) :
    (updSlot k f s).grade = s.grade := rfl
@[simp] theorem updSlot_shelf (k : Fin 4) (f : Slot → Slot) (s : State) :
    (updSlot k f s).shelf = s.shelf := rfl
@[simp] theorem updSlot_svc (k : Fin 4) (f : Slot → Slot) (s : State) :
    (updSlot k f s).svc = s.svc := rfl
@[simp] theorem updSlot_list (k : Fin 4) (f : Slot → Slot) (s : State) :
    (updSlot k f s).store.list = s.store.list := rfl
@[simp] theorem updSlot_spliceSeen (k : Fin 4) (f : Slot → Slot) (s : State) :
    (updSlot k f s).store.spliceSeen = s.store.spliceSeen := rfl
@[simp] theorem updSlot_emission (k : Fin 4) (f : Slot → Slot) (s : State) :
    (updSlot k f s).store.emission = s.store.emission := rfl
/-- The named slot takes its new value and the others keep their own. -/
@[simp] theorem updSlot_slot (k j : Fin 4) (f : Slot → Slot) (s : State) :
    (updSlot k f s).slot j = if j = k then f (s.slot k) else s.slot j := by
  simp only [State.slot, updSlot, Vector.get_eq_getElem, Vector.getElem_set, Fin.ext_iff]
  split <;> simp_all [eq_comm]
@[simp] theorem updSlot_reel (k : Fin 4) (f : Slot → Slot) (s : State) (r : Fin 2) :
    (updSlot k f s).reel r = s.reel r := rfl

/-! ## Every slot changed -/

@[simp] theorem mapSlots_pending (f : Slot → Slot) (s : State) :
    (mapSlots f s).pending = s.pending := rfl
@[simp] theorem mapSlots_npor (f : Slot → Slot) (s : State) :
    (mapSlots f s).npor = s.npor := rfl
@[simp] theorem mapSlots_link (f : Slot → Slot) (s : State) :
    (mapSlots f s).link = s.link := rfl
@[simp] theorem mapSlots_reels (f : Slot → Slot) (s : State) :
    (mapSlots f s).reels = s.reels := rfl
@[simp] theorem mapSlots_reg (f : Slot → Slot) (s : State) :
    (mapSlots f s).reg = s.reg := rfl
@[simp] theorem mapSlots_xport (f : Slot → Slot) (s : State) :
    (mapSlots f s).xport = s.xport := rfl
@[simp] theorem mapSlots_defect (f : Slot → Slot) (s : State) :
    (mapSlots f s).defect = s.defect := rfl
@[simp] theorem mapSlots_repair (f : Slot → Slot) (s : State) :
    (mapSlots f s).repair = s.repair := rfl
@[simp] theorem mapSlots_grade (f : Slot → Slot) (s : State) :
    (mapSlots f s).grade = s.grade := rfl
@[simp] theorem mapSlots_shelf (f : Slot → Slot) (s : State) :
    (mapSlots f s).shelf = s.shelf := rfl
@[simp] theorem mapSlots_svc (f : Slot → Slot) (s : State) :
    (mapSlots f s).svc = s.svc := rfl
@[simp] theorem mapSlots_list (f : Slot → Slot) (s : State) : (mapSlots f s).store.list = s.store.list := rfl
@[simp] theorem mapSlots_spliceSeen (f : Slot → Slot) (s : State) :
    (mapSlots f s).store.spliceSeen = s.store.spliceSeen := rfl
@[simp] theorem mapSlots_emission (f : Slot → Slot) (s : State) :
    (mapSlots f s).store.emission = s.store.emission := rfl
/-- Each slot takes its own new value. -/
@[simp] theorem mapSlots_slot (f : Slot → Slot) (s : State) (k : Fin 4) : (mapSlots f s).slot k = f (s.slot k) := by
  simp [mapSlots, State.slot, Vector.get_eq_getElem]
@[simp] theorem mapSlots_reel (f : Slot → Slot) (s : State) (r : Fin 2) : (mapSlots f s).reel r = s.reel r := rfl

/-! ## The receive state set -/

@[simp] theorem setRx_pending (x : RxState) (s : State) :
    (setRx x s).pending = s.pending := rfl
@[simp] theorem setRx_npor (x : RxState) (s : State) :
    (setRx x s).npor = s.npor := rfl
@[simp] theorem setRx_reels (x : RxState) (s : State) :
    (setRx x s).reels = s.reels := rfl
@[simp] theorem setRx_store (x : RxState) (s : State) :
    (setRx x s).store = s.store := rfl
@[simp] theorem setRx_reg (x : RxState) (s : State) :
    (setRx x s).reg = s.reg := rfl
@[simp] theorem setRx_xport (x : RxState) (s : State) :
    (setRx x s).xport = s.xport := rfl
@[simp] theorem setRx_defect (x : RxState) (s : State) :
    (setRx x s).defect = s.defect := rfl
@[simp] theorem setRx_repair (x : RxState) (s : State) :
    (setRx x s).repair = s.repair := rfl
@[simp] theorem setRx_grade (x : RxState) (s : State) :
    (setRx x s).grade = s.grade := rfl
@[simp] theorem setRx_shelf (x : RxState) (s : State) :
    (setRx x s).shelf = s.shelf := rfl
@[simp] theorem setRx_svc (x : RxState) (s : State) :
    (setRx x s).svc = s.svc := rfl
@[simp] theorem setRx_rx (x : RxState) (s : State) : (setRx x s).link.rx = x := rfl
@[simp] theorem setRx_errors (x : RxState) (s : State) : (setRx x s).link.errors = s.link.errors := rfl
@[simp] theorem setRx_pause (x : RxState) (s : State) : (setRx x s).link.pause = s.link.pause := rfl
@[simp] theorem setRx_lane (x : RxState) (s : State) : (setRx x s).link.lane = s.link.lane := rfl
@[simp] theorem setRx_aborted (x : RxState) (s : State) : (setRx x s).link.aborted = s.link.aborted := rfl
@[simp] theorem setRx_inFlight (x : RxState) (s : State) : (setRx x s).link.inFlight = s.link.inFlight := rfl

/-! ## An attention cause raised, a service fault recorded, LOAD_HOLD recomputed -/

@[simp] theorem raiseCause_pending (c : Cause) (s : State) :
    (raiseCause c s).pending = s.pending := rfl
@[simp] theorem raiseCause_npor (c : Cause) (s : State) :
    (raiseCause c s).npor = s.npor := rfl
@[simp] theorem raiseCause_link (c : Cause) (s : State) :
    (raiseCause c s).link = s.link := rfl
@[simp] theorem raiseCause_reels (c : Cause) (s : State) :
    (raiseCause c s).reels = s.reels := rfl
@[simp] theorem raiseCause_store (c : Cause) (s : State) :
    (raiseCause c s).store = s.store := rfl
@[simp] theorem raiseCause_reg (c : Cause) (s : State) :
    (raiseCause c s).reg = s.reg := rfl
@[simp] theorem raiseCause_xport (c : Cause) (s : State) :
    (raiseCause c s).xport = s.xport := rfl
@[simp] theorem raiseCause_defect (c : Cause) (s : State) :
    (raiseCause c s).defect = s.defect := rfl
@[simp] theorem raiseCause_repair (c : Cause) (s : State) :
    (raiseCause c s).repair = s.repair := rfl
@[simp] theorem raiseCause_grade (c : Cause) (s : State) :
    (raiseCause c s).grade = s.grade := rfl
@[simp] theorem raiseCause_shelf (c : Cause) (s : State) :
    (raiseCause c s).shelf = s.shelf := rfl
@[simp] theorem raiseCause_queue (c : Cause) (s : State) : (raiseCause c s).svc.queue = s.svc.queue := rfl
@[simp] theorem raiseCause_framing (c : Cause) (s : State) : (raiseCause c s).svc.framing = s.svc.framing := rfl
@[simp] theorem raiseCause_faultCount (c : Cause) (s : State) :
    (raiseCause c s).svc.faultCount = s.svc.faultCount := rfl
@[simp] theorem raiseCause_stray (c : Cause) (s : State) : (raiseCause c s).svc.stray = s.svc.stray := rfl
@[simp] theorem raiseCause_mask (c : Cause) (s : State) : (raiseCause c s).svc.mask = s.svc.mask := rfl
@[simp] theorem raiseCause_resetSeen (c : Cause) (s : State) :
    (raiseCause c s).svc.resetSeen = s.svc.resetSeen := rfl
@[simp] theorem raiseCause_reel (c : Cause) (s : State) (r : Fin 2) : (raiseCause c s).reel r = s.reel r := rfl
@[simp] theorem raiseCause_slot (c : Cause) (s : State) (k : Fin 4) : (raiseCause c s).slot k = s.slot k := rfl
@[simp] theorem recordFault_pending (k : FaultKind) (s : State) :
    (recordFault k s).pending = s.pending := rfl
@[simp] theorem recordFault_npor (k : FaultKind) (s : State) :
    (recordFault k s).npor = s.npor := rfl
@[simp] theorem recordFault_link (k : FaultKind) (s : State) :
    (recordFault k s).link = s.link := rfl
@[simp] theorem recordFault_reels (k : FaultKind) (s : State) :
    (recordFault k s).reels = s.reels := rfl
@[simp] theorem recordFault_store (k : FaultKind) (s : State) :
    (recordFault k s).store = s.store := rfl
@[simp] theorem recordFault_reg (k : FaultKind) (s : State) :
    (recordFault k s).reg = s.reg := rfl
@[simp] theorem recordFault_xport (k : FaultKind) (s : State) :
    (recordFault k s).xport = s.xport := rfl
@[simp] theorem recordFault_defect (k : FaultKind) (s : State) :
    (recordFault k s).defect = s.defect := rfl
@[simp] theorem recordFault_repair (k : FaultKind) (s : State) :
    (recordFault k s).repair = s.repair := rfl
@[simp] theorem recordFault_grade (k : FaultKind) (s : State) :
    (recordFault k s).grade = s.grade := rfl
@[simp] theorem recordFault_shelf (k : FaultKind) (s : State) :
    (recordFault k s).shelf = s.shelf := rfl
@[simp] theorem recordFault_queue (k : FaultKind) (s : State) : (recordFault k s).svc.queue = s.svc.queue := rfl
@[simp] theorem recordFault_framing (k : FaultKind) (s : State) :
    (recordFault k s).svc.framing = s.svc.framing := rfl
@[simp] theorem recordFault_kind (k : FaultKind) (s : State) : (recordFault k s).svc.faultKind = k := rfl
@[simp] theorem recordFault_count (k : FaultKind) (s : State) :
    (recordFault k s).svc.faultCount = satAdd 255 s.svc.faultCount 1 := rfl
@[simp] theorem recordFault_cause (k : FaultKind) (s : State) :
    (recordFault k s).svc.causes.serviceFault = true := rfl
@[simp] theorem recomputeLoadHold_pending (s : State) :
    (recomputeLoadHold s).pending = s.pending := rfl
@[simp] theorem recomputeLoadHold_npor (s : State) :
    (recomputeLoadHold s).npor = s.npor := rfl
@[simp] theorem recomputeLoadHold_link (s : State) :
    (recomputeLoadHold s).link = s.link := rfl
@[simp] theorem recomputeLoadHold_reels (s : State) :
    (recomputeLoadHold s).reels = s.reels := rfl
@[simp] theorem recomputeLoadHold_store (s : State) :
    (recomputeLoadHold s).store = s.store := rfl
@[simp] theorem recomputeLoadHold_reg (s : State) :
    (recomputeLoadHold s).reg = s.reg := rfl
@[simp] theorem recomputeLoadHold_defect (s : State) :
    (recomputeLoadHold s).defect = s.defect := rfl
@[simp] theorem recomputeLoadHold_repair (s : State) :
    (recomputeLoadHold s).repair = s.repair := rfl
@[simp] theorem recomputeLoadHold_grade (s : State) :
    (recomputeLoadHold s).grade = s.grade := rfl
@[simp] theorem recomputeLoadHold_shelf (s : State) :
    (recomputeLoadHold s).shelf = s.shelf := rfl
@[simp] theorem recomputeLoadHold_svc (s : State) :
    (recomputeLoadHold s).svc = s.svc := rfl
@[simp] theorem recomputeLoadHold_loadHold (s : State) :
    (recomputeLoadHold s).xport.loadHold = (s.xport.hyst || bothOccupied s) := rfl
@[simp] theorem recomputeLoadHold_cls (s : State) : (recomputeLoadHold s).xport.cls = s.xport.cls := rfl
@[simp] theorem recomputeLoadHold_ceiling (s : State) :
    (recomputeLoadHold s).xport.ceiling = s.xport.ceiling := rfl
@[simp] theorem recomputeLoadHold_hyst (s : State) : (recomputeLoadHold s).xport.hyst = s.xport.hyst := rfl

end Sys2Proof.Machine
end

