-- ==== Sys2Proof/Laws/Frames.lean ====
section
/-! SUPPORT. What each shared operation leaves alone: the whole fields of the state it never writes. -/
namespace Sys2Proof.Machine

-- One thread a theorem is too many for the joined text under its memory limit.
set_option Elab.async false

@[simp] theorem creditTo_frame (tag : Option (Fin 2)) (f : Counters → Counters) (s : State) :
    (creditTo tag f s).pending = s.pending ∧ (creditTo tag f s).npor = s.npor ∧ (creditTo tag f s).link = s.link ∧
    (creditTo tag f s).store = s.store ∧ (creditTo tag f s).reg = s.reg ∧ (creditTo tag f s).xport = s.xport ∧
    (creditTo tag f s).defect = s.defect ∧ (creditTo tag f s).repair = s.repair ∧
    (creditTo tag f s).grade = s.grade ∧ (creditTo tag f s).shelf = s.shelf ∧ (creditTo tag f s).svc = s.svc := by
  unfold creditTo
  (repeat' split) <;> simp

@[simp] theorem writeTo_frame (r : Fin 2) (f : ReelRecord → ReelRecord) (s : State) :
    (writeTo r f s).pending = s.pending ∧ (writeTo r f s).npor = s.npor ∧ (writeTo r f s).link = s.link ∧
    (writeTo r f s).store = s.store ∧ (writeTo r f s).reg = s.reg ∧ (writeTo r f s).xport = s.xport ∧
    (writeTo r f s).defect = s.defect ∧ (writeTo r f s).repair = s.repair ∧ (writeTo r f s).grade = s.grade ∧
    (writeTo r f s).shelf = s.shelf ∧ (writeTo r f s).svc = s.svc := by
  unfold writeTo
  split <;> simp

@[simp] theorem settleLinks_frame (v : Slot → SuccLink) (s : State) :
    (settleLinks v s).pending = s.pending ∧ (settleLinks v s).npor = s.npor ∧ (settleLinks v s).link = s.link ∧
    (settleLinks v s).reels = s.reels ∧ (settleLinks v s).reg = s.reg ∧ (settleLinks v s).xport = s.xport ∧
    (settleLinks v s).defect = s.defect ∧ (settleLinks v s).repair = s.repair ∧ (settleLinks v s).grade = s.grade ∧
    (settleLinks v s).shelf = s.shelf ∧ (settleLinks v s).svc = s.svc := by
  exact ⟨rfl, rfl, rfl, rfl, rfl, rfl, rfl, rfl, rfl, rfl, rfl⟩

@[simp] theorem movePending_frame (k : Fin 4) (v : SuccLink) (s : State) :
    (movePending k v s).pending = s.pending ∧ (movePending k v s).npor = s.npor ∧ (movePending k v s).link = s.link ∧
    (movePending k v s).reels = s.reels ∧ (movePending k v s).reg = s.reg ∧ (movePending k v s).xport = s.xport ∧
    (movePending k v s).defect = s.defect ∧ (movePending k v s).repair = s.repair ∧
    (movePending k v s).grade = s.grade ∧ (movePending k v s).shelf = s.shelf ∧ (movePending k v s).svc = s.svc := by
  exact ⟨rfl, rfl, rfl, rfl, rfl, rfl, rfl, rfl, rfl, rfl, rfl⟩

@[simp] theorem takeTrim_frame (tag : Option (Fin 2)) (s : State) :
    (takeTrim tag s).pending = s.pending ∧ (takeTrim tag s).npor = s.npor ∧ (takeTrim tag s).link = s.link ∧
    (takeTrim tag s).store = s.store ∧ (takeTrim tag s).reg = s.reg ∧ (takeTrim tag s).xport = s.xport ∧
    (takeTrim tag s).defect = s.defect ∧ (takeTrim tag s).repair = s.repair ∧ (takeTrim tag s).shelf = s.shelf ∧
    (takeTrim tag s).svc = s.svc := by
  unfold takeTrim
  split <;> simp

@[simp] theorem planFrame_frame (k : Fin 4) (r : Fin 2) (s : State) :
    (planFrame k r s).pending = s.pending ∧ (planFrame k r s).npor = s.npor ∧ (planFrame k r s).link = s.link ∧
    (planFrame k r s).store = s.store ∧ (planFrame k r s).reg = s.reg ∧ (planFrame k r s).xport = s.xport ∧
    (planFrame k r s).defect = s.defect ∧ (planFrame k r s).shelf = s.shelf ∧ (planFrame k r s).svc = s.svc := by
  simp [planFrame]

@[simp] theorem startEmission_frame (k : Fin 4) (s : State) :
    (startEmission k s).pending = s.pending ∧ (startEmission k s).npor = s.npor ∧ (startEmission k s).link = s.link ∧
    (startEmission k s).reg = s.reg ∧ (startEmission k s).xport = s.xport ∧ (startEmission k s).defect = s.defect ∧
    (startEmission k s).shelf = s.shelf ∧ (startEmission k s).svc = s.svc := by
  unfold startEmission
  simp only []
  split <;> simp

@[simp] theorem checkHead_frame (s : State) :
    (checkHead s).pending = s.pending ∧ (checkHead s).npor = s.npor ∧ (checkHead s).link = s.link ∧
    (checkHead s).reg = s.reg ∧ (checkHead s).xport = s.xport ∧ (checkHead s).defect = s.defect ∧
    (checkHead s).shelf = s.shelf ∧ (checkHead s).svc = s.svc := by
  unfold checkHead
  (repeat' split) <;> simp

@[simp] theorem handCount_frame (s : State) :
    (handCount s).pending = s.pending ∧ (handCount s).npor = s.npor ∧ (handCount s).link = s.link ∧
    (handCount s).reels = s.reels ∧ (handCount s).store = s.store ∧ (handCount s).reg = s.reg ∧
    (handCount s).defect = s.defect ∧ (handCount s).repair = s.repair ∧ (handCount s).grade = s.grade ∧
    (handCount s).shelf = s.shelf ∧ (handCount s).svc = s.svc := by
  exact ⟨rfl, rfl, rfl, rfl, rfl, rfl, rfl, rfl, rfl, rfl, rfl⟩

@[simp] theorem takeNotice_frame (s : State) :
    (takeNotice s).pending = s.pending ∧ (takeNotice s).npor = s.npor ∧ (takeNotice s).link = s.link ∧
    (takeNotice s).store = s.store ∧ (takeNotice s).reg = s.reg ∧ (takeNotice s).xport = s.xport ∧
    (takeNotice s).defect = s.defect ∧ (takeNotice s).repair = s.repair ∧ (takeNotice s).grade = s.grade ∧
    (takeNotice s).shelf = s.shelf := by
  unfold takeNotice
  (repeat' split) <;> simp

@[simp] theorem disposeReel_frame (r : Fin 2) (s : State) :
    (disposeReel r s).pending = s.pending ∧ (disposeReel r s).npor = s.npor ∧ (disposeReel r s).link = s.link ∧
    (disposeReel r s).store = s.store ∧ (disposeReel r s).reg = s.reg ∧ (disposeReel r s).defect = s.defect ∧
    (disposeReel r s).repair = s.repair ∧ (disposeReel r s).grade = s.grade := by
  unfold disposeReel
  simp only []
  split <;> simp

@[simp] theorem judgeStore_frame (r : Fin 2) (s : State) :
    (judgeStore r s).pending = s.pending ∧ (judgeStore r s).npor = s.npor ∧ (judgeStore r s).link = s.link ∧
    (judgeStore r s).store = s.store ∧ (judgeStore r s).reg = s.reg ∧ (judgeStore r s).defect = s.defect ∧
    (judgeStore r s).repair = s.repair ∧ (judgeStore r s).grade = s.grade := by
  unfold judgeStore
  split <;> simp

@[simp] theorem removeFrame_frame (k : Fin 4) (s : State) :
    (removeFrame k s).pending = s.pending ∧ (removeFrame k s).npor = s.npor ∧ (removeFrame k s).link = s.link ∧
    (removeFrame k s).reels = s.reels ∧ (removeFrame k s).reg = s.reg ∧ (removeFrame k s).xport = s.xport ∧
    (removeFrame k s).defect = s.defect ∧ (removeFrame k s).repair = s.repair ∧ (removeFrame k s).grade = s.grade ∧
    (removeFrame k s).shelf = s.shelf ∧ (removeFrame k s).svc = s.svc := by
  exact ⟨rfl, rfl, rfl, rfl, rfl, rfl, rfl, rfl, rfl, rfl, rfl⟩

@[simp] theorem releaseKept_frame (k : Fin 4) (s : State) :
    (releaseKept k s).pending = s.pending ∧ (releaseKept k s).npor = s.npor ∧ (releaseKept k s).link = s.link ∧
    (releaseKept k s).reels = s.reels ∧ (releaseKept k s).reg = s.reg ∧ (releaseKept k s).xport = s.xport ∧
    (releaseKept k s).defect = s.defect ∧ (releaseKept k s).repair = s.repair ∧ (releaseKept k s).grade = s.grade ∧
    (releaseKept k s).shelf = s.shelf ∧ (releaseKept k s).svc = s.svc := by
  exact ⟨rfl, rfl, rfl, rfl, rfl, rfl, rfl, rfl, rfl, rfl, rfl⟩

@[simp] theorem endEmission_frame (k : Fin 4) (s : State) :
    (endEmission k s).pending = s.pending ∧ (endEmission k s).npor = s.npor ∧ (endEmission k s).link = s.link ∧
    (endEmission k s).reg = s.reg ∧ (endEmission k s).defect = s.defect := by
  unfold endEmission
  simp only []
  split <;> simp

@[simp] theorem discardFrame_frame (k : Fin 4) (s : State) :
    (discardFrame k s).pending = s.pending ∧ (discardFrame k s).npor = s.npor ∧ (discardFrame k s).link = s.link ∧
    (discardFrame k s).reels = s.reels ∧ (discardFrame k s).reg = s.reg ∧ (discardFrame k s).xport = s.xport ∧
    (discardFrame k s).defect = s.defect ∧ (discardFrame k s).repair = s.repair ∧
    (discardFrame k s).grade = s.grade ∧ (discardFrame k s).shelf = s.shelf ∧ (discardFrame k s).svc = s.svc := by
  exact ⟨rfl, rfl, rfl, rfl, rfl, rfl, rfl, rfl, rfl, rfl, rfl⟩

@[simp] theorem regDiscard_frame (r : Fin 2) (s : State) :
    (regDiscard r s).pending = s.pending ∧ (regDiscard r s).npor = s.npor ∧ (regDiscard r s).link = s.link ∧
    (regDiscard r s).reels = s.reels ∧ (regDiscard r s).store = s.store ∧ (regDiscard r s).xport = s.xport ∧
    (regDiscard r s).defect = s.defect ∧ (regDiscard r s).repair = s.repair ∧ (regDiscard r s).grade = s.grade ∧
    (regDiscard r s).shelf = s.shelf ∧ (regDiscard r s).svc = s.svc := by
  exact ⟨rfl, rfl, rfl, rfl, rfl, rfl, rfl, rfl, rfl, rfl, rfl⟩

@[simp] theorem linkFaultDiscard_frame (k : Fin 4) (r : Fin 2) (s : State) :
    (linkFaultDiscard k r s).pending = s.pending ∧ (linkFaultDiscard k r s).npor = s.npor ∧
    (linkFaultDiscard k r s).link = s.link ∧ (linkFaultDiscard k r s).defect = s.defect := by
  simp [linkFaultDiscard]

@[simp] theorem cutShort_frame (s : State) :
    (cutShort s).pending = s.pending ∧ (cutShort s).npor = s.npor ∧ (cutShort s).defect = s.defect := by
  unfold cutShort
  (repeat' split) <;> simp

@[simp] theorem appendControl_frame (e : Entry) (s : State) :
    (appendControl e s).pending = s.pending ∧ (appendControl e s).npor = s.npor ∧ (appendControl e s).link = s.link ∧
    (appendControl e s).reels = s.reels ∧ (appendControl e s).reg = s.reg ∧ (appendControl e s).xport = s.xport ∧
    (appendControl e s).defect = s.defect ∧ (appendControl e s).repair = s.repair ∧
    (appendControl e s).grade = s.grade ∧ (appendControl e s).shelf = s.shelf := by
  unfold appendControl
  split <;> simp

@[simp] theorem clearTracks_frame (tag : Option (Fin 2)) (s : State) :
    (clearTracks tag s).pending = s.pending ∧ (clearTracks tag s).npor = s.npor ∧ (clearTracks tag s).link = s.link ∧
    (clearTracks tag s).store = s.store ∧ (clearTracks tag s).reg = s.reg ∧ (clearTracks tag s).xport = s.xport ∧
    (clearTracks tag s).repair = s.repair ∧ (clearTracks tag s).grade = s.grade ∧
    (clearTracks tag s).shelf = s.shelf ∧ (clearTracks tag s).svc = s.svc := by
  simp [clearTracks]

@[simp] theorem closeTest_frame (r : Fin 2) (s : State) :
    (closeTest r s).pending = s.pending ∧ (closeTest r s).npor = s.npor ∧ (closeTest r s).link = s.link ∧
    (closeTest r s).store = s.store ∧ (closeTest r s).reg = s.reg ∧ (closeTest r s).xport = s.xport ∧
    (closeTest r s).defect = s.defect ∧ (closeTest r s).repair = s.repair ∧ (closeTest r s).grade = s.grade ∧
    (closeTest r s).shelf = s.shelf := by
  unfold closeTest
  (repeat' split) <;> simp

@[simp] theorem closeReel_frame (r : Fin 2) (implicit : Bool) (s : State) :
    (closeReel r implicit s).pending = s.pending ∧ (closeReel r implicit s).npor = s.npor ∧
    (closeReel r implicit s).link = s.link ∧ (closeReel r implicit s).store = s.store ∧
    (closeReel r implicit s).reg = s.reg ∧ (closeReel r implicit s).repair = s.repair ∧
    (closeReel r implicit s).grade = s.grade := by
  simp [closeReel]

@[simp] theorem openReel_frame (r : Fin 2) (h : ReelHeader) (keepFailed : Bool) (s : State) :
    (openReel r h keepFailed s).pending = s.pending ∧ (openReel r h keepFailed s).npor = s.npor ∧
    (openReel r h keepFailed s).link = s.link ∧ (openReel r h keepFailed s).store = s.store ∧
    (openReel r h keepFailed s).repair = s.repair ∧ (openReel r h keepFailed s).shelf = s.shelf := by
  simp [openReel]

@[simp] theorem openOrRefuse_frame (h : ReelHeader) (ended : Bool) (keepFailed : Bool) (s : State) :
    (openOrRefuse h ended keepFailed s).pending = s.pending ∧ (openOrRefuse h ended keepFailed s).npor = s.npor ∧
    (openOrRefuse h ended keepFailed s).link = s.link ∧ (openOrRefuse h ended keepFailed s).store = s.store ∧
    (openOrRefuse h ended keepFailed s).repair = s.repair ∧ (openOrRefuse h ended keepFailed s).shelf = s.shelf := by
  unfold openOrRefuse
  split <;> simp

@[simp] theorem takeReelOpen_frame (h : ReelHeader) (s : State) :
    (takeReelOpen h s).pending = s.pending ∧ (takeReelOpen h s).npor = s.npor ∧ (takeReelOpen h s).link = s.link ∧
    (takeReelOpen h s).store = s.store ∧ (takeReelOpen h s).repair = s.repair := by
  unfold takeReelOpen
  split <;> simp

@[simp] theorem takeReelClose_frame (s : State) :
    (takeReelClose s).pending = s.pending ∧ (takeReelClose s).npor = s.npor ∧ (takeReelClose s).link = s.link ∧
    (takeReelClose s).store = s.store ∧ (takeReelClose s).reg = s.reg ∧ (takeReelClose s).repair = s.repair ∧
    (takeReelClose s).grade = s.grade := by
  unfold takeReelClose
  split <;> simp

@[simp] theorem takeSplice_frame (s : State) :
    (takeSplice s).pending = s.pending ∧ (takeSplice s).npor = s.npor ∧ (takeSplice s).link = s.link ∧
    (takeSplice s).xport = s.xport ∧ (takeSplice s).repair = s.repair ∧ (takeSplice s).shelf = s.shelf ∧
    (takeSplice s).svc = s.svc := by
  unfold takeSplice
  simp only []
  split <;> simp

@[simp] theorem takeFrameOpen_frame (frameNo : Word) (step : Nat) (cls : SpeedClass) (s : State) :
    (takeFrameOpen frameNo step cls s).pending = s.pending ∧ (takeFrameOpen frameNo step cls s).npor = s.npor ∧
    (takeFrameOpen frameNo step cls s).xport = s.xport ∧ (takeFrameOpen frameNo step cls s).defect = s.defect ∧
    (takeFrameOpen frameNo step cls s).repair = s.repair ∧ (takeFrameOpen frameNo step cls s).grade = s.grade ∧
    (takeFrameOpen frameNo step cls s).shelf = s.shelf := by
  unfold takeFrameOpen
  simp only []
  split <;> simp

@[simp] theorem takeTreatedLine_frame (k : Fin 4) (r : Fin 2) (px : List Pixel) (s : State) :
    (takeTreatedLine k r px s).pending = s.pending ∧ (takeTreatedLine k r px s).npor = s.npor ∧
    (takeTreatedLine k r px s).link = s.link ∧ (takeTreatedLine k r px s).reels = s.reels ∧
    (takeTreatedLine k r px s).xport = s.xport ∧ (takeTreatedLine k r px s).defect = s.defect ∧
    (takeTreatedLine k r px s).repair = s.repair ∧ (takeTreatedLine k r px s).grade = s.grade ∧
    (takeTreatedLine k r px s).shelf = s.shelf ∧ (takeTreatedLine k r px s).svc = s.svc := by
  exact ⟨rfl, rfl, rfl, rfl, rfl, rfl, rfl, rfl, rfl, rfl⟩

@[simp] theorem takeLine_frame (px : List Pixel) (s : State) :
    (takeLine px s).pending = s.pending ∧ (takeLine px s).npor = s.npor ∧ (takeLine px s).defect = s.defect := by
  unfold takeLine
  (repeat' split) <;> simp

@[simp] theorem acqTimeoutStep_frame (k : Fin 4) (r : Fin 2) (s : State) :
    (acqTimeoutStep k r s).pending = s.pending ∧ (acqTimeoutStep k r s).npor = s.npor ∧
    (acqTimeoutStep k r s).link = s.link ∧ (acqTimeoutStep k r s).store = s.store ∧
    (acqTimeoutStep k r s).reg = s.reg ∧ (acqTimeoutStep k r s).xport = s.xport ∧
    (acqTimeoutStep k r s).defect = s.defect ∧ (acqTimeoutStep k r s).repair = s.repair ∧
    (acqTimeoutStep k r s).grade = s.grade ∧ (acqTimeoutStep k r s).shelf = s.shelf := by
  unfold acqTimeoutStep
  simp only []
  (repeat' split) <;> simp

@[simp] theorem acqClose_frame (k : Fin 4) (r : Fin 2) (sample : Option Nat) (s : State) :
    (acqClose k r sample s).pending = s.pending ∧ (acqClose k r sample s).npor = s.npor ∧
    (acqClose k r sample s).link = s.link ∧ (acqClose k r sample s).store = s.store ∧
    (acqClose k r sample s).xport = s.xport ∧ (acqClose k r sample s).defect = s.defect ∧
    (acqClose k r sample s).repair = s.repair ∧ (acqClose k r sample s).grade = s.grade ∧
    (acqClose k r sample s).shelf = s.shelf := by
  simp [acqClose]

@[simp] theorem regClose_frame (k : Fin 4) (r : Fin 2) (s : State) :
    (regClose k r s).pending = s.pending ∧ (regClose k r s).npor = s.npor ∧ (regClose k r s).link = s.link ∧
    (regClose k r s).xport = s.xport ∧ (regClose k r s).defect = s.defect ∧ (regClose k r s).repair = s.repair ∧
    (regClose k r s).grade = s.grade ∧ (regClose k r s).shelf = s.shelf := by
  simp [regClose]

@[simp] theorem retireTracks_frame (k : Fin 4) (r : Fin 2) (s : State) :
    (retireTracks k r s).pending = s.pending ∧ (retireTracks k r s).npor = s.npor ∧
    (retireTracks k r s).link = s.link ∧ (retireTracks k r s).store = s.store ∧ (retireTracks k r s).reg = s.reg ∧
    (retireTracks k r s).xport = s.xport ∧ (retireTracks k r s).repair = s.repair ∧
    (retireTracks k r s).grade = s.grade ∧ (retireTracks k r s).shelf = s.shelf ∧ (retireTracks k r s).svc = s.svc := by
  simp [retireTracks]

@[simp] theorem judgeTear_frame (r : Fin 2) (frameNo : Word) (torn : Bool) (s : State) :
    (judgeTear r frameNo torn s).pending = s.pending ∧ (judgeTear r frameNo torn s).npor = s.npor ∧
    (judgeTear r frameNo torn s).link = s.link ∧ (judgeTear r frameNo torn s).store = s.store ∧
    (judgeTear r frameNo torn s).reg = s.reg ∧ (judgeTear r frameNo torn s).xport = s.xport ∧
    (judgeTear r frameNo torn s).repair = s.repair ∧ (judgeTear r frameNo torn s).grade = s.grade ∧
    (judgeTear r frameNo torn s).shelf = s.shelf := by
  unfold judgeTear
  simp only []
  split <;> simp

@[simp] theorem defectClose_frame (k : Fin 4) (r : Fin 2) (s : State) :
    (defectClose k r s).pending = s.pending ∧ (defectClose k r s).npor = s.npor ∧ (defectClose k r s).link = s.link ∧
    (defectClose k r s).reg = s.reg ∧ (defectClose k r s).xport = s.xport ∧ (defectClose k r s).repair = s.repair ∧
    (defectClose k r s).grade = s.grade ∧ (defectClose k r s).shelf = s.shelf := by
  simp [defectClose]

@[simp] theorem gradeClose_frame (k : Fin 4) (r : Fin 2) (s : State) :
    (gradeClose k r s).pending = s.pending ∧ (gradeClose k r s).npor = s.npor ∧ (gradeClose k r s).link = s.link ∧
    (gradeClose k r s).reg = s.reg ∧ (gradeClose k r s).xport = s.xport ∧ (gradeClose k r s).defect = s.defect ∧
    (gradeClose k r s).repair = s.repair ∧ (gradeClose k r s).shelf = s.shelf ∧ (gradeClose k r s).svc = s.svc := by
  simp [gradeClose]

@[simp] theorem adoptionStep_frame (k : Fin 4) (s : State) :
    (adoptionStep k s).pending = s.pending ∧ (adoptionStep k s).npor = s.npor ∧ (adoptionStep k s).link = s.link ∧
    (adoptionStep k s).reels = s.reels ∧ (adoptionStep k s).store = s.store ∧ (adoptionStep k s).reg = s.reg ∧
    (adoptionStep k s).defect = s.defect ∧ (adoptionStep k s).repair = s.repair ∧
    (adoptionStep k s).grade = s.grade ∧ (adoptionStep k s).shelf = s.shelf ∧ (adoptionStep k s).svc = s.svc := by
  exact ⟨rfl, rfl, rfl, rfl, rfl, rfl, rfl, rfl, rfl, rfl, rfl⟩

@[simp] theorem transportClose_frame (k : Fin 4) (r : Fin 2) (s : State) :
    (transportClose k r s).pending = s.pending ∧ (transportClose k r s).npor = s.npor ∧
    (transportClose k r s).link = s.link ∧ (transportClose k r s).reels = s.reels ∧
    (transportClose k r s).reg = s.reg ∧ (transportClose k r s).defect = s.defect ∧
    (transportClose k r s).repair = s.repair ∧ (transportClose k r s).grade = s.grade ∧
    (transportClose k r s).shelf = s.shelf ∧ (transportClose k r s).svc = s.svc := by
  simp [transportClose]

@[simp] theorem closeTreated_frame (k : Fin 4) (r : Fin 2) (s : State) :
    (closeTreated k r s).pending = s.pending ∧ (closeTreated k r s).npor = s.npor ∧
    (closeTreated k r s).link = s.link ∧ (closeTreated k r s).repair = s.repair ∧
    (closeTreated k r s).shelf = s.shelf := by
  simp [closeTreated]

@[simp] theorem takeFrameClose_frame (s : State) :
    (takeFrameClose s).pending = s.pending ∧ (takeFrameClose s).npor = s.npor := by
  unfold takeFrameClose
  (repeat' split) <;> simp

@[simp] theorem freePosition_frame (s : State) :
    (freePosition s).pending = s.pending ∧ (freePosition s).npor = s.npor ∧ (freePosition s).link = s.link ∧
    (freePosition s).store = s.store ∧ (freePosition s).reg = s.reg ∧ (freePosition s).xport = s.xport ∧
    (freePosition s).defect = s.defect ∧ (freePosition s).repair = s.repair ∧ (freePosition s).grade = s.grade ∧
    (freePosition s).shelf = s.shelf := by
  simp [freePosition]

@[simp] theorem sendControl_frame (s : State) :
    (sendControl s).pending = s.pending ∧ (sendControl s).npor = s.npor ∧ (sendControl s).link = s.link ∧
    (sendControl s).reg = s.reg ∧ (sendControl s).xport = s.xport ∧ (sendControl s).defect = s.defect ∧
    (sendControl s).shelf = s.shelf ∧ (sendControl s).svc = s.svc := by
  simp [sendControl]

@[simp] theorem sentPart_frame (p : SentPart) (s : State) :
    (sentPart p s).pending = s.pending ∧ (sentPart p s).npor = s.npor ∧ (sentPart p s).link = s.link ∧
    (sentPart p s).reg = s.reg ∧ (sentPart p s).defect = s.defect := by
  unfold sentPart
  (repeat' split) <;> simp

@[simp] theorem settle_frame (before : State) (s : State) :
    (settle before s).pending = s.pending ∧ (settle before s).npor = s.npor ∧ (settle before s).link = s.link ∧
    (settle before s).reels = s.reels ∧ (settle before s).store = s.store ∧ (settle before s).reg = s.reg ∧
    (settle before s).defect = s.defect ∧ (settle before s).repair = s.repair ∧ (settle before s).grade = s.grade ∧
    (settle before s).shelf = s.shelf := by
  unfold settle
  simp only []
  split <;> simp

@[simp] theorem completeCell_frame (s : State) :
    (completeCell s).pending = s.pending ∧ (completeCell s).npor = s.npor ∧ (completeCell s).reg = s.reg ∧
    (completeCell s).defect = s.defect := by
  unfold completeCell
  split <;> simp
  split <;> simp

end Sys2Proof.Machine
end

