-- ==== Sys2Proof/Laws/Ops.lean ====
section
/-! SUPPORT. For each shared operation, one lemma that says once what it can do. -/
namespace Sys2Proof.Machine

-- One thread a theorem is too many for the joined text under its memory limit.
set_option Elab.async false

/-! ## Arithmetic -/

/-- A credit never carries a counter beyond its ceiling. -/
theorem satAdd_le {top n : Nat} (k : Nat) (h : n ≤ top) : satAdd top n k ≤ top := by
  unfold satAdd; split <;> omega

/-- A credit that stays within the ceiling is exact. -/
theorem satAdd_eq {top n k : Nat} (h : n + k ≤ top) : satAdd top n k = n + k := by
  unfold satAdd; split <;> omega

/-- A clamped value lies in its range. -/
theorem clampNat_mem {lo hi : Nat} (v : Nat) (h : lo ≤ hi) : lo ≤ clampNat lo hi v ∧ clampNat lo hi v ≤ hi := by
  unfold clampNat; split
  · omega
  · split <;> omega

/-- A value of the range stands. -/
theorem clampNat_eq {lo hi v : Nat} (h1 : lo ≤ v) (h2 : v ≤ hi) : clampNat lo hi v = v := by
  unfold clampNat; split
  · omega
  · split <;> omega

/-- A clamped signed value lies in its range. -/
theorem clampInt_mem {lo hi : Int} (v : Int) (h : lo ≤ hi) : lo ≤ clampInt lo hi v ∧ clampInt lo hi v ≤ hi := by
  unfold clampInt; split
  · omega
  · split <;> omega

/-- The slower of two classes has the larger rank. -/
theorem rank_slower (a b : SpeedClass) : rank (slower a b) = max (rank a) (rank b) := by
  cases a <;> cases b <;> rfl

/-! ## Records and slots -/

/-- A credit reaches the named record unless it is FREE, and changes its counters alone (R31). -/
theorem creditTo_reel (tag : Option (Fin 2)) (f : Counters → Counters) (s : State) (q : Fin 2) :
    (creditTo tag f s).reel q =
      if tag = some q ∧ (s.reel q).state ≠ .free then { s.reel q with counters := f (s.reel q).counters }
      else s.reel q := by
  unfold creditTo
  split
  · simp
  · rename_i r
    split <;> by_cases h : q = r <;> simp_all [eq_comm]

/-- A credit changes no record's state. -/
theorem creditTo_state (tag : Option (Fin 2)) (f : Counters → Counters) (s : State) (q : Fin 2) :
    ((creditTo tag f s).reel q).state = (s.reel q).state := by
  rw [creditTo_reel]; split <;> rfl

/-- A write reaches the named record unless it is FREE (R31). -/
theorem writeTo_reel (r q : Fin 2) (f : ReelRecord → ReelRecord) (s : State) :
    (writeTo r f s).reel q = if q = r ∧ (s.reel r).state ≠ .free then f (s.reel r) else s.reel q := by
  unfold writeTo; split <;> simp_all

/-! ## The emission list and emission -/

/-- The check of the head starts the emission of a CLOSED frame with a settled link while no slot is EMITTING, and does
nothing otherwise (R45). -/
theorem checkHead_cases (s : State) :
    checkHead s = s ∨
    ∃ k rest, s.store.list = .frame k :: rest ∧ anyEmitting s = false ∧ (s.slot k).state = .closed ∧
      linkSettled (s.slot k).link = true ∧ checkHead s = startEmission k s := by
  unfold checkHead
  split
  · rename_i k rest heq
    split
    · rename_i h
      simp only [Bool.and_eq_true, Bool.not_eq_true', decide_eq_true_eq] at h
      exact .inr ⟨k, rest, heq, h.1.1, h.1.2, h.2, rfl⟩
    · exact .inl rfl
  · exact .inl rfl

/-- An emission start changes only the counters of the frame's own record (R46, R125, R155). -/
theorem startEmission_reel (k : Fin 4) (s : State) (q : Fin 2) :
    ∃ c, (startEmission k s).reel q = { s.reel q with counters := c } ∧
      c.opened = (s.reel q).counters.opened ∧ c.emitted = (s.reel q).counters.emitted ∧
      c.dropped = (s.reel q).counters.dropped ∧ c.discarded = (s.reel q).counters.discarded := by
  have key : ∀ (t : Option (Fin 2)) (f : Counters → Counters) (u : State)
      (_ : ∀ c : Counters, (f c).opened = c.opened ∧ (f c).emitted = c.emitted ∧ (f c).dropped = c.dropped ∧
        (f c).discarded = c.discarded),
      ∃ c, (creditTo t f u).reel q = { u.reel q with counters := c } ∧ c.opened = (u.reel q).counters.opened ∧
        c.emitted = (u.reel q).counters.emitted ∧ c.dropped = (u.reel q).counters.dropped ∧
        c.discarded = (u.reel q).counters.discarded := by
    intro t f u hf
    rw [creditTo_reel]; split
    · exact ⟨_, rfl, hf _⟩
    · exact ⟨_, rfl, rfl, rfl, rfl, rfl⟩
  unfold startEmission
  simp only []
  split
  · rename_i r _
    unfold planFrame takeTrim
    simp only []
    obtain ⟨c1, h1, e1⟩ := key (some r) (creditPlan (planFor s k r)) { s with repair := some (planFor s k r) }
      (fun _ => ⟨rfl, rfl, rfl, rfl⟩)
    split
    · obtain ⟨c2, h2, e2⟩ := key (some r) (fun c => { c with trims := credit32 c.trims 1 })
        { creditTo (some r) (creditPlan (planFor s k r)) { s with repair := some (planFor s k r) } with
          grade := { (creditTo (some r) (creditPlan (planFor s k r))
                        { s with repair := some (planFor s k r) }).grade with
                      trim := (creditTo (some r) (creditPlan (planFor s k r))
                        { s with repair := some (planFor s k r) }).grade.pendingTrim
                      written := false } } (fun _ => ⟨rfl, rfl, rfl, rfl⟩)
      refine ⟨c2, ?_, ?_⟩
      · have : ∀ (u : State) (e : Option Emission),
            ({ u with store := { u.store with emission := e } } : State).reel q = u.reel q := fun _ _ => rfl
        rw [this, updSlot_reel, h2]
        have h3 : ∀ (u : State) (g : Grading), ({ u with grade := g } : State).reel q = u.reel q := fun _ _ => rfl
        rw [h3, h1]; rfl
      · have h3 : ∀ (u : State) (g : Grading), ({ u with grade := g } : State).reel q = u.reel q := fun _ _ => rfl
        rw [h3, h1] at e2
        exact ⟨e2.1.trans e1.1, e2.2.1.trans e1.2.1, e2.2.2.1.trans e1.2.2.1, e2.2.2.2.trans e1.2.2.2⟩
    · refine ⟨c1, ?_, e1⟩
      have : ∀ (u : State) (e : Option Emission),
          ({ u with store := { u.store with emission := e } } : State).reel q = u.reel q := fun _ _ => rfl
      rw [this, updSlot_reel, h1]; rfl
  · exact ⟨_, rfl, rfl, rfl, rfl, rfl⟩

/-- A control cell is appended, or, with 16 control entries listed, raises FRAME_LOST alone (R43). -/
theorem appendControl_cases (e : Entry) (s : State) :
    ((s.store.list.filter isControl).length < Config.maxControls ∧
      appendControl e s = { s with store := { s.store with list := s.store.list ++ [e] } }) ∨
    (Config.maxControls ≤ (s.store.list.filter isControl).length ∧ appendControl e s = raiseCause .frameLost s) := by
  unfold appendControl
  split
  · rename_i h; exact .inl ⟨h, rfl⟩
  · rename_i h; exact .inr ⟨Nat.le_of_not_lt h, rfl⟩

/-! ## Disposal -/

/-- A free notice position goes to the record that waits longest; nothing happens otherwise (R30). -/
theorem takeNotice_cases (s : State) :
    takeNotice s = s ∨
    ∃ r rest, s.reels.waiting = r :: rest ∧ noticeFree s = true ∧
      (takeNotice s).reels.waiting = rest ∧
      (takeNotice s).reels.last = { s.reel r with state := .disposing } ∧
      (takeNotice s).reels.refused = s.reels.refused ∧
      (takeNotice s).svc = { s.svc with queue := s.svc.queue ++ [⟨true, noticeWords s.link.lane (s.reel r)⟩] } ∧
      ∀ q, (takeNotice s).reel q = if q = r then { s.reel r with state := .free } else s.reel q := by
  unfold takeNotice
  split
  · exact .inl rfl
  · rename_i r rest heq
    split
    · rename_i h
      refine .inr ⟨r, rest, heq, h, rfl, rfl, rfl, rfl, fun q => ?_⟩
      rw [updReel_reel]; rfl
    · exact .inl rfl

/-- A DRAINING record with no frame left in the store enters DISPOSING; nothing happens otherwise (R28). -/
theorem judgeStore_cases (r : Fin 2) (s : State) :
    ((s.reel r).state = .draining ∧ storeCount s r = 0 ∧ judgeStore r s = disposeReel r s) ∨
    (¬((s.reel r).state = .draining ∧ storeCount s r = 0) ∧ judgeStore r s = s) := by
  unfold judgeStore
  split
  · rename_i h; exact .inl ⟨h.1, h.2, rfl⟩
  · rename_i h; exact .inr ⟨h, rfl⟩

/-- A disposition is one of the five cases of R169; it changes the shelving unit only by an append. -/
theorem dispose_cases (s : Shelving) (r : ReelRecord) :
    ((dispose s r).2 = s ∧ (dispose s r).1.outcome ≠ .placed) ∨
    ∃ b, s.placements.length < Config.maxPlacements ∧
      (s.placements.any fun q => decide (q.reelId = r.header.reelId)) = false ∧
      chooseBay s r.header.base (policyOf s r).cls (policyOf s r).hold = some b ∧
      (dispose s r).2 = appendPlacement s r (policyOf s r) b ∧ (dispose s r).1.outcome = .placed := by
  unfold dispose
  simp only []
  split
  · exact .inl ⟨rfl, by simp [writeDisposition]⟩
  · split
    · exact .inl ⟨rfl, by simp [writeDisposition]⟩
    · split
      · exact .inl ⟨rfl, by simp [writeDisposition]⟩
      · split
        · exact .inl ⟨rfl, by simp [writeDisposition]⟩
        · rename_i h1 h2 _ b h3
          exact .inr ⟨b, Nat.lt_of_not_le h2, by simpa using h1, h3, rfl, rfl⟩

/-! ## The end of an event -/

/-- An event's end recomputes LOAD_HOLD and, on an unmasked change, sets the summary flag and CONDITION_CHANGE (R192). -/
theorem settle_cases (before after : State) :
    (unmaskedChange before (recomputeLoadHold after) = false ∧ settle before after = recomputeLoadHold after) ∨
    (unmaskedChange before (recomputeLoadHold after) = true ∧
      settle before after = raiseCause .condChange
        { recomputeLoadHold after with svc := { after.svc with summary := true } }) := by
  unfold settle
  simp only []
  split
  · rename_i h; exact .inr ⟨h, rfl⟩
  · rename_i h; exact .inl ⟨by simpa using h, rfl⟩

/-- An event's end leaves the whole of transport control but LOAD_HOLD. -/
theorem settle_xport (before after : State) :
    (settle before after).xport = { after.xport with loadHold := after.xport.hyst || bothOccupied after } := by
  obtain ⟨-, h⟩ | ⟨-, h⟩ := settle_cases before after <;> rw [h] <;> rfl

/-- An event's end leaves the service engine but the summary flag and CONDITION_CHANGE. -/
theorem settle_svc (before after : State) :
    (settle before after).svc = after.svc ∨
    (settle before after).svc =
      { after.svc with summary := true, causes := { after.svc.causes with condChange := true } } := by
  obtain ⟨-, h⟩ | ⟨-, h⟩ := settle_cases before after <;> rw [h]
  · exact .inl rfl
  · exact .inr rfl

/-- An event that moves no block a condition bit follows ends as it stands (R192). -/
theorem settle_same {s t : State} (h : s.xport.loadHold = (s.xport.hyst || bothOccupied s))
    (hr : t.reels.recs = s.reels.recs) (hst : t.store = s.store) (hreg : t.reg = s.reg) (hx : t.xport = s.xport)
    (hg : t.grade.sel = s.grade.sel) (hp : t.link.pause = s.link.pause)
    (hsh : t.shelf.placements = s.shelf.placements) (hrs : t.svc.resetSeen = s.svc.resetSeen) : settle s t = t := by
  have e : recomputeLoadHold t = t := by
    have hb : bothOccupied t = bothOccupied s := by unfold bothOccupied State.reel; rw [hr]
    unfold recomputeLoadHold
    rw [hb, hx, ← h, ← hx]
  obtain ⟨-, h2⟩ | ⟨h1, -⟩ := settle_cases s t
  · rw [h2, e]
  · have hc : conditionWord t = conditionWord s := by
      unfold conditionWord conditionBits activeRec acqLocked windowTainted State.reel State.slot
      rw [hr, hst, hreg, hx, hg, hp, hsh, hrs]
    rw [e] at h1
    simp [unmaskedChange, hc] at h1

/-! ## Arriving cells -/

/-! ## Slots freed before their close -/

/-- A slot at RESET: FREE, and only a filling frame's defect state and histograms change beside. -/
theorem resetSlot_cases (x : Slot) :
    (x.state = .filling ∧ resetSlot x = { x with
      state := .free, regions := [], defectOverflow := false, regionsLost := 0, hist := emptyHist }) ∨
    (x.state ≠ .filling ∧ resetSlot x = { x with state := .free }) := by
  unfold resetSlot
  split
  · exact .inl ⟨‹_›, rfl⟩
  · exact .inr ⟨‹_›, rfl⟩

/-- Every slot is FREE after RESET. -/
@[simp] theorem resetSlot_state (x : Slot) : (resetSlot x).state = .free := by
  unfold resetSlot
  split <;> rfl

/-- RESET frees slot by slot. -/
@[simp] theorem resetBlocks_slot (reply : List Word) (s : State) (k : Fin 4) :
    (resetBlocks reply s).slot k = resetSlot (s.slot k) := by
  simp [resetBlocks, State.slot]

/-- The emission list's loss of a frame entry leaves the slots. -/
@[simp] theorem removeFrame_slot (k j : Fin 4) (s : State) : (removeFrame k s).slot j = s.slot j := rfl

/-- A discard frees its slot and settles to NONE a link that waited for it; every other record stands. -/
theorem discardFrame_slot (k j : Fin 4) (s : State) :
    (discardFrame k s).slot j =
      if j = k then { s.slot k with state := .free }
      else if (s.slot j).state ≠ .free ∧ (s.slot j).link = .pending k then { s.slot j with link := .none }
      else s.slot j := by
  simp only [discardFrame, movePending, mapSlots_slot, removeFrame_slot, updSlot_slot]
  by_cases h : j = k <;> simp [h]


/-- A FRAME_CLOSE is disregarded, ends an ignored frame, closes a frame or discards it (R9). -/
theorem takeFrameClose_cases (s : State) :
    (s.link.rx = .between ∧ takeFrameClose s = s) ∨
    (s.link.rx = .ignoring ∧ takeFrameClose s = setRx .between s) ∨
    (∃ k, s.link.rx = .filling k ∧ (s.slot k).tag = none ∧
      takeFrameClose s = setRx .between (checkHead (updSlot k (fun x => { x with state := .closed }) s))) ∨
    (∃ k r, s.link.rx = .filling k ∧ (s.slot k).tag = some r ∧ (s.slot k).lineCount = (s.reel r).header.lines ∧
      takeFrameClose s = setRx .between (checkHead (closeTreated k r s))) ∨
    (∃ k r, s.link.rx = .filling k ∧ (s.slot k).tag = some r ∧ (s.slot k).lineCount ≠ (s.reel r).header.lines ∧
      takeFrameClose s = setRx .between (linkFaultDiscard k r s)) := by
  unfold takeFrameClose
  split
  · rename_i h; exact .inl ⟨h, rfl⟩
  · rename_i h; exact .inr (.inl ⟨h, rfl⟩)
  · rename_i k h
    split
    · rename_i r ht
      split
      · rename_i hl; exact .inr (.inr (.inr (.inl ⟨k, r, h, ht, hl, rfl⟩)))
      · rename_i hl; exact .inr (.inr (.inr (.inr ⟨k, r, h, ht, hl, rfl⟩)))
    · rename_i ht; exact .inr (.inr (.inl ⟨k, h, ht, rfl⟩))

/-- A LINE is disregarded, taken, or discards its frame (R8, R12). -/
theorem takeLine_cases (px : List Pixel) (s : State) :
    ((s.link.rx = .between ∨ s.link.rx = .ignoring) ∧ takeLine px s = s) ∨
    (∃ k r, s.link.rx = .filling k ∧ (s.slot k).tag = some r ∧ px.length = (s.reel r).header.pixels ∧
      (s.slot k).lineCount < (s.reel r).header.lines ∧ takeLine px s = takeTreatedLine k r px s) ∨
    (∃ k r, s.link.rx = .filling k ∧ (s.slot k).tag = some r ∧
      ¬(px.length = (s.reel r).header.pixels ∧ (s.slot k).lineCount < (s.reel r).header.lines) ∧
      takeLine px s = setRx .ignoring (linkFaultDiscard k r s)) ∨
    (∃ k, s.link.rx = .filling k ∧ (s.slot k).tag = none ∧ (s.slot k).lineCount < Config.maxLines ∧
      takeLine px s = updSlot k (storeLine px) s) ∨
    (∃ k, s.link.rx = .filling k ∧ (s.slot k).tag = none ∧ Config.maxLines ≤ (s.slot k).lineCount ∧
      takeLine px s = setRx .ignoring (checkHead (discardFrame k s))) := by
  unfold takeLine
  split
  · rename_i h; exact .inl ⟨.inl h, rfl⟩
  · rename_i h; exact .inl ⟨.inr h, rfl⟩
  · rename_i k h
    split
    · rename_i r ht
      split
      · rename_i hl; exact .inr (.inl ⟨k, r, h, ht, hl.1, hl.2, rfl⟩)
      · rename_i hl; exact .inr (.inr (.inl ⟨k, r, h, ht, hl, rfl⟩))
    · rename_i ht
      split
      · rename_i hl; exact .inr (.inr (.inr (.inl ⟨k, h, ht, hl, rfl⟩)))
      · rename_i hl; exact .inr (.inr (.inr (.inr ⟨k, h, ht, Nat.le_of_not_lt hl, rfl⟩)))

/-- After an open frame has been cut short, none is open (R13). -/
@[simp] theorem cutShort_rx (s : State) : (cutShort s).link.rx = .between := by
  unfold cutShort
  split
  · assumption
  · rfl
  · rfl

/-- A REEL_OPEN with no record ACTIVE opens the lowest FREE record or is refused (R23, R26). -/
theorem openOrRefuse_cases (h : ReelHeader) (ended keepFailed : Bool) (s : State) :
    (∃ r, freeRec s = some r ∧ openOrRefuse h ended keepFailed s = openReel r h keepFailed s) ∨
    (freeRec s = none ∧
      openOrRefuse h ended keepFailed s =
        { s with
          reels := { s.reels with refused := satAdd 65535 s.reels.refused 1 }
          xport := if ended then transportIdle s.xport else s.xport }) := by
  unfold openOrRefuse
  split
  · rename_i r h; exact .inl ⟨r, h, rfl⟩
  · rename_i h; exact .inr ⟨h, rfl⟩

/-! ## Messages and words -/

/-- A message is the RESET, is refused for want of a reply position, is executed, or is answered BAD_LENGTH (R185). -/
theorem runVerb_cases (v : Verb) (tag : Byte) (body : List Word) (s : State) :
    (v = .reset ∧ body = [] ∧ runVerb v tag body s = runReset tag (endFraming s)) ∨
    (¬(v = .reset ∧ body = []) ∧ replyFree (endFraming s) = false ∧
      runVerb v tag body s = recordFault .replyFull (endFraming s)) ∨
    (¬(v = .reset ∧ body = []) ∧ replyFree (endFraming s) = true ∧ lengthOk v body.length = true ∧
      runVerb v tag body s = settleVerb v (endFraming s)
        (queueReply (verbCode v) tag (verbAction v body (endFraming s)).1 (verbAction v body (endFraming s)).2)) ∨
    (¬(v = .reset ∧ body = []) ∧ replyFree (endFraming s) = true ∧ lengthOk v body.length = false ∧
      runVerb v tag body s = queueReply (verbCode v) tag [outcomeWord .badLength] (endFraming s)) := by
  unfold runVerb
  simp only []
  split
  · rename_i h; exact .inl ⟨h.1, h.2, rfl⟩
  · rename_i h
    split
    · rename_i hf; exact .inr (.inl ⟨h, by simpa using hf, rfl⟩)
    · rename_i hf
      split
      · rename_i hl; exact .inr (.inr (.inl ⟨h, by simpa using hf, hl, rfl⟩))
      · rename_i hl; exact .inr (.inr (.inr ⟨h, by simpa using hf, by simpa using hl, rfl⟩))

/-- A message of a right body that finds a reply position free is executed and answered (R185). -/
theorem runVerb_executes {v : Verb} {body : List Word} {s : State} (tag : Byte) (hf : replyFree s = true)
    (hl : lengthOk v body.length = true) (hv : ¬(v = .reset ∧ body = [])) :
    runVerb v tag body s = settleVerb v (endFraming s)
      (queueReply (verbCode v) tag (verbAction v body (endFraming s)).1 (verbAction v body (endFraming s)).2) := by
  obtain h | h | h | h := runVerb_cases v tag body s
  · exact absurd ⟨h.1, h.2.1⟩ hv
  · exact absurd (hf.symm.trans h.2.1) (by decide)
  · exact h.2.2.2
  · exact absurd (hl.symm.trans h.2.2.1) (by decide)

/-- A service slot begins a pair, is empty between words, completes a word, or records MISMATCH or ORPHAN (R181). -/
theorem takeSlot_cases (slot : Option Word) (s : State) :
    (∃ w, s.svc.pair = .expectFirst ∧ slot = some w ∧ takeSlot slot s = countCell (setPair (.haveFirst w) s)) ∨
    (s.svc.pair = .expectFirst ∧ slot = none ∧ takeSlot slot s = countCell s) ∨
    (∃ f, s.svc.pair = .haveFirst f ∧ slot = some f ∧ takeSlot slot s = acceptWord f (setPair .expectFirst s)) ∨
    (∃ f w, s.svc.pair = .haveFirst f ∧ slot = some w ∧ w ≠ f ∧ takeSlot slot s = faultDiscard .mismatch s) ∨
    (∃ f, s.svc.pair = .haveFirst f ∧ slot = none ∧ takeSlot slot s = faultDiscard .orphan s) := by
  unfold takeSlot
  split
  · rename_i w h; exact .inl ⟨w, h, rfl, rfl⟩
  · rename_i h; exact .inr (.inl ⟨h, rfl, rfl⟩)
  · rename_i f w h
    split
    · rename_i e; subst e; exact .inr (.inr (.inl ⟨w, h, rfl, rfl⟩))
    · rename_i e; exact .inr (.inr (.inr (.inl ⟨f, w, h, rfl, e, rfl⟩)))
  · rename_i f h; exact .inr (.inr (.inr (.inr ⟨f, h, rfl, rfl⟩)))

/-! ## The outgoing ingest cell -/

/-- A sent cell frees its message's position and does what its emitted part brings about (R47, R48, R186). -/
theorem completeCell_cases (s : State) :
    (s.link.inFlight = none ∧ completeCell s = s) ∨
    ∃ f, s.link.inFlight = some f ∧
      completeCell s = settle s (sentPart f.part (if f.lastCopy then
        freePosition { s with link := { s.link with inFlight := none } }
        else { s with link := { s.link with inFlight := none } })) := by
  unfold completeCell
  split
  · rename_i h; exact .inl ⟨h, rfl⟩
  · rename_i f h; exact .inr ⟨f, h, rfl⟩

/-- A composed service slot is the left-over copy, the next copy of the message at the head, or empty (R186, R194). -/
theorem composeSlot_cases (s : State) :
    (∃ w, s.svc.leftover = some w ∧
      composeSlot s = (some w, false, { s with svc := { s.svc with leftover := none } })) ∨
    (∃ m rest w, s.svc.leftover = none ∧ s.svc.queue = m :: rest ∧ m.words[s.svc.copies / 2]? = some w ∧
      composeSlot s = (some w, decide (s.svc.copies + 1 = 2 * m.words.length),
        { s with svc := { s.svc with copies := s.svc.copies + 1 } })) ∨
    (s.svc.leftover = none ∧ composeSlot s = (none, false, s)) := by
  unfold composeSlot
  split
  · rename_i w h; exact .inl ⟨w, h, rfl⟩
  · rename_i h
    split
    · exact .inr (.inr ⟨h, rfl⟩)
    · rename_i m rest hq
      split
      · rename_i w hw; exact .inr (.inl ⟨m, rest, w, h, hq, hw, rfl⟩)
      · exact .inr (.inr ⟨h, rfl⟩)

end Sys2Proof.Machine
end

