-- ==== Sys2Proof/Laws/Decisions.lean ====
section
/-! SUPPORT. What the two decisions of a close can do, in the rows of R87, R88, R92 and R93, what a cell's slot
carries, and that table writes keep their ranges. -/
namespace Sys2Proof.Machine

-- One thread a theorem is too many for the joined text under its memory limit.
set_option Elab.async false

/-- A held frame's count and step are R88's first row. -/
theorem countHeld_steps (x : Transport) :
    (countHeld x).goodRun = 0 ∧
    ((x.cls ≠ .s3 ∧ stepDownRun x.table x.cls ≤ satAdd 65535 x.heldRun 1) →
      rank (countHeld x).cls = max (rank x.cls + 1) (rank x.ceiling) ∧ (countHeld x).heldRun = 0) ∧
    (¬(x.cls ≠ .s3 ∧ stepDownRun x.table x.cls ≤ satAdd 65535 x.heldRun 1) →
      (countHeld x).cls = x.cls ∧ (countHeld x).heldRun = satAdd 65535 x.heldRun 1) := by
  unfold countHeld
  dsimp only
  split
  · rename_i h
    refine ⟨rfl, fun _ => ⟨?_, rfl⟩, fun g => absurd h g⟩
    unfold atCeiling slower
    cases hc : x.cls <;> cases x.ceiling <;> simp_all [stepDown, rank]
  · rename_i h
    exact ⟨rfl, fun g => absurd g h, fun _ => ⟨rfl, rfl⟩⟩

/-- A good frame's count and step are R88's second row. -/
theorem countGood_steps (x : Transport) :
    (countGood x).heldRun = 0 ∧
    ((x.cls ≠ .s0 ∧ x.table.u ≤ satAdd 65535 x.goodRun 1 ∧ rank x.ceiling + 1 ≤ rank x.cls) →
      rank (countGood x).cls + 1 = rank x.cls ∧ (countGood x).goodRun = 0) ∧
    (¬(x.cls ≠ .s0 ∧ x.table.u ≤ satAdd 65535 x.goodRun 1 ∧ rank x.ceiling + 1 ≤ rank x.cls) →
      (countGood x).cls = x.cls ∧ (countGood x).goodRun = satAdd 65535 x.goodRun 1) := by
  have hr : x.cls ≠ .s0 → rank x.cls = rank (stepUp x.cls) + 1 := by
    intro h; cases hc : x.cls <;> simp_all [stepUp, rank]
  unfold countGood
  dsimp only
  split
  · rename_i h
    have h1 := hr h.1
    refine ⟨rfl, fun _ => ⟨?_, rfl⟩, fun g => absurd ⟨h.1, h.2.1, by omega⟩ g⟩
    unfold atCeiling slower
    simp only [Nat.not_lt.mpr h.2.2, if_false]
    exact h1.symm
  · rename_i h
    refine ⟨rfl, fun g => absurd ⟨g.1, g.2.1, ?_⟩ h, fun _ => ⟨rfl, rfl⟩⟩
    have h1 := hr g.1
    omega

/-- The speed decision is that of R87 and R88. -/
theorem speedClose_decided (tear acquiring held : Bool) (conf upConf : Nat) (x : Transport) :
    speedDecided tear acquiring held conf upConf x (speedClose tear acquiring held conf upConf x) := by
  have hd : ((x.cls = .s0 ∧ x.table.d0 ≤ satAdd 65535 x.heldRun 1) ∨
      (x.cls = .s1 ∧ x.table.d1 ≤ satAdd 65535 x.heldRun 1) ∨
      (x.cls = .s2 ∧ x.table.d2 ≤ satAdd 65535 x.heldRun 1)) ↔
      (x.cls ≠ .s3 ∧ stepDownRun x.table x.cls ≤ satAdd 65535 x.heldRun 1) := by
    cases hc : x.cls <;> simp [stepDownRun]
  obtain ⟨h1, h2, h3⟩ := countHeld_steps x
  obtain ⟨g1, g2, g3⟩ := countGood_steps x
  have ht : slower .s3 x.ceiling = .s3 := by cases x.ceiling <;> rfl
  have ha : rank (slower .s2 x.ceiling) = max 2 (rank x.ceiling) := by cases x.ceiling <;> rfl
  unfold speedDecided
  dsimp only
  rw [hd]
  refine ⟨?_, ?_, ?_, ?_, ?_⟩
  · rintro rfl; exact ⟨ht, rfl, rfl⟩
  · rintro rfl rfl; exact ⟨ha, rfl, rfl⟩
  · rintro rfl rfl rfl; exact ⟨h1, h2, h3⟩
  · rintro rfl rfl rfl hu
    simp only [speedClose, Bool.false_eq_true, if_false, if_pos hu]
    exact ⟨g1, g2, g3⟩
  · rintro rfl rfl rfl hu
    simp only [speedClose, Bool.false_eq_true, if_false, if_neg (Nat.not_le.mpr hu), and_self]

/-- A channel clips as R92 gives. -/
theorem channelClipped_iff (clipPm : Nat) (h : Vector Nat 64) : channelClipped clipPm h = true ↔ clips clipPm h := by
  unfold channelClipped clips
  simp only [Bool.and_eq_true, decide_eq_true_eq]

/-- A channel counts as low with no high point, or with one below low_mark (R92). -/
theorem channelLow_iff (lowMark highPm : Nat) (h : Vector Nat 64) :
    channelLow lowMark highPm h = true ↔ (1 ≤ histCount h → highPoint h highPm < lowMark) := by
  unfold channelLow
  simp only [Bool.or_eq_true, decide_eq_true_eq]
  constructor
  · rintro (h0 | h0) h1
    · omega
    · exact h0
  · intro h0
    rcases Nat.eq_zero_or_pos (histCount h) with hz | hp
    · exact .inl hz
    · exact .inr (h0 hp)

/-- The decision of a matching report is DOWN for a clipped frame, UP for one that calls for light, HOLD otherwise (R92). -/
theorem exposureDecision_cases (t : TransportTable) (highPm : Nat) (h : Rgb (Vector Nat 64)) :
    ((∃ c ∈ [h.r, h.g, h.b], clips t.clipPm c) → exposureDecision t highPm h = .down) ∧
    ((∀ c ∈ [h.r, h.g, h.b], ¬clips t.clipPm c) → callsForLight t.lowMark highPm [h.r, h.g, h.b] →
      exposureDecision t highPm h = .up) ∧
    ((∀ c ∈ [h.r, h.g, h.b], ¬clips t.clipPm c) → ¬callsForLight t.lowMark highPm [h.r, h.g, h.b] →
      exposureDecision t highPm h = .hold) := by
  have hc : (channelClipped t.clipPm h.r || channelClipped t.clipPm h.g || channelClipped t.clipPm h.b) = true ↔
      ∃ c ∈ [h.r, h.g, h.b], clips t.clipPm c := by
    simp [channelClipped_iff, or_assoc]
  have hl : ((decide (1 ≤ histCount h.r) || decide (1 ≤ histCount h.g) || decide (1 ≤ histCount h.b)) &&
      (channelLow t.lowMark highPm h.r && channelLow t.lowMark highPm h.g && channelLow t.lowMark highPm h.b)) = true ↔
      callsForLight t.lowMark highPm [h.r, h.g, h.b] := by
    simp [callsForLight, channelLow_iff, or_assoc, and_assoc]
  unfold exposureDecision
  refine ⟨fun a => if_pos (hc.mpr a), fun a b => ?_, fun a b => ?_⟩
  · rw [if_neg (fun g => by obtain ⟨c, m, k⟩ := hc.mp g; exact a c m k), if_pos (hl.mpr b)]
  · rw [if_neg (fun g => by obtain ⟨c, m, k⟩ := hc.mp g; exact a c m k), if_neg (fun g => b (hl.mp g))]

/-- The exposure decision, with the adoption of the fourth mismatch, is that of R92 and R93. -/
theorem exposureClose_decided (reported highPm : Nat) (h : Rgb (Vector Nat 64)) (x : Transport) :
    exposureDecided reported highPm [h.r, h.g, h.b] x (adoptStep reported (exposureClose reported highPm h x)) := by
  obtain ⟨d1, d2, d3⟩ := exposureDecision_cases x.table highPm h
  unfold exposureDecided exposureClose
  refine ⟨fun e => ?_, fun e => ?_⟩
  · rw [if_pos e]
    refine ⟨rfl, rfl, fun a => ?_, fun a b => ?_, fun a b => ?_⟩
    · show applyDecision x.cmdStep _ = _
      rw [d1 a]; rfl
    · show applyDecision x.cmdStep _ = _
      rw [d2 a b]; rfl
    · show applyDecision x.cmdStep _ = _
      rw [d3 a b]; rfl
  · rw [if_neg e]
    unfold adoptStep
    refine ⟨fun l => ?_, fun l => ?_⟩
    · rw [if_neg (show ¬Config.adoptAfter ≤ x.mismatch + 1 from Nat.not_le.mpr l)]
      exact ⟨rfl, rfl, rfl⟩
    · rw [if_pos (show Config.adoptAfter ≤ x.mismatch + 1 from l)]
      exact ⟨rfl, rfl, rfl⟩

/-- The word a composed cell carries is the one the transmit side has due. -/
theorem composeSlot_word (s : State) : (composeSlot s).1 = slotDue s := by
  unfold composeSlot slotDue
  cases s.svc.leftover <;> simp only []
  cases s.svc.queue with
  | nil => rfl
  | cons m q => simp only [List.head?_cons, Option.bind_some]; cases m.words[s.svc.copies / 2]? <;> rfl

/-- An accepted write of a policy word keeps the entry in range. -/
theorem policyWrite_inRange (i : Nat) (w : Word) (e : PolicyEntry) (h : e.inRange) : (policyWrite i w e).inRange := by
  unfold policyWrite
  split
  · exact ⟨Nat.min_le_left _ _, (clampNat_mem _ (by omega)).2⟩
  · exact h

/-- An accepted write of a bay word keeps the bay in range. -/
theorem bayWrite_inRange (i : Nat) (w : Word) (b : Bay) (h : b.inRange) : (bayWrite i w b).inRange := by
  unfold bayWrite
  split
  · exact h
  · exact ⟨Nat.min_le_left _ _, Nat.min_le_left _ _⟩

end Sys2Proof.Machine
end

