-- ==== Sys2Proof/Laws/Messages.lean ====
section
/-! SUPPORT. What the table writes and the verbs leave alone. -/
namespace Sys2Proof.Machine

-- One thread a theorem is too many for the joined text under its memory limit.
set_option Elab.async false

/-- One table word written leaves every field that holds no table. -/
@[simp] theorem writeWord_frame (id i : Nat) (w : Word) (s : State) :
    (writeWord id i w s).pending = s.pending ∧ (writeWord id i w s).npor = s.npor ∧
    (writeWord id i w s).link = s.link ∧ (writeWord id i w s).reels = s.reels ∧
    (writeWord id i w s).store = s.store ∧ (writeWord id i w s).repair = s.repair ∧
    (writeWord id i w s).svc = s.svc ∧ (writeWord id i w s).shelf.placements = s.shelf.placements ∧
    (writeWord id i w s).shelf.nextId = s.shelf.nextId ∧ (writeWord id i w s).grade.sel = s.grade.sel ∧
    (writeWord id i w s).xport.hyst = s.xport.hyst ∧ (writeWord id i w s).xport.cls = s.xport.cls ∧
    (writeWord id i w s).xport.ceiling = s.xport.ceiling ∧
    (writeWord id i w s).defect.tracks = s.defect.tracks := by
  unfold writeWord
  split <;> simp

/-- A table write leaves every field that holds no table (R189). -/
@[simp] theorem writeWords_frame (id i : Nat) (ws : List Word) (s : State) :
    (writeWords id i ws s).pending = s.pending ∧ (writeWords id i ws s).npor = s.npor ∧
    (writeWords id i ws s).link = s.link ∧ (writeWords id i ws s).reels = s.reels ∧
    (writeWords id i ws s).store = s.store ∧ (writeWords id i ws s).repair = s.repair ∧
    (writeWords id i ws s).svc = s.svc ∧ (writeWords id i ws s).shelf.placements = s.shelf.placements ∧
    (writeWords id i ws s).shelf.nextId = s.shelf.nextId ∧ (writeWords id i ws s).grade.sel = s.grade.sel ∧
    (writeWords id i ws s).xport.hyst = s.xport.hyst ∧ (writeWords id i ws s).xport.cls = s.xport.cls ∧
    (writeWords id i ws s).xport.ceiling = s.xport.ceiling ∧
    (writeWords id i ws s).defect.tracks = s.defect.tracks := by
  induction ws generalizing i s with
  | nil => simp [writeWords]
  | cons w ws ih => simp [writeWords, ih]

/-- An accepted WRITE_TABLE leaves every field that holds no table (R189). -/
@[simp] theorem writeTableWords_frame (id i : Nat) (ws : List Word) (s : State) :
    (writeTableWords id i ws s).pending = s.pending ∧ (writeTableWords id i ws s).npor = s.npor ∧
    (writeTableWords id i ws s).link = s.link ∧ (writeTableWords id i ws s).reels = s.reels ∧
    (writeTableWords id i ws s).store = s.store ∧ (writeTableWords id i ws s).repair = s.repair ∧
    (writeTableWords id i ws s).svc = s.svc ∧
    (writeTableWords id i ws s).shelf.placements = s.shelf.placements ∧
    (writeTableWords id i ws s).shelf.nextId = s.shelf.nextId ∧
    (writeTableWords id i ws s).xport.hyst = s.xport.hyst ∧
    (writeTableWords id i ws s).xport.cls = s.xport.cls ∧
    (writeTableWords id i ws s).xport.ceiling = s.xport.ceiling ∧
    (writeTableWords id i ws s).defect.tracks = s.defect.tracks := by
  unfold writeTableWords refreshChecksum
  simp only []
  split <;> simp

/-- What no verb but RESET touches: the store, the records, the plan, the receive state, the reply queue and the framing. -/
structure VerbFrame (s t : State) : Prop where
  pending : t.pending = s.pending
  npor : t.npor = s.npor
  store : t.store = s.store
  repair : t.repair = s.repair
  recs : t.reels.recs = s.reels.recs
  last : t.reels.last = s.reels.last
  waiting : t.reels.waiting = s.reels.waiting
  rx : t.link.rx = s.link.rx
  inFlight : t.link.inFlight = s.link.inFlight
  queue : t.svc.queue = s.svc.queue
  copies : t.svc.copies = s.svc.copies
  framing : t.svc.framing = s.svc.framing
  pair : t.svc.pair = s.svc.pair
  tracks : t.defect.tracks = s.defect.tracks

/-- A state frames itself. -/
theorem VerbFrame.same (s : State) : VerbFrame s s :=
  ⟨rfl, rfl, rfl, rfl, rfl, rfl, rfl, rfl, rfl, rfl, rfl, rfl, rfl, rfl⟩

/-- WRITE_TABLE keeps the verb frame (R189). -/
theorem actWriteTable_frame (id start : Nat) (ws : List Word) (s : State) :
    VerbFrame s (actWriteTable id start ws s).2 := by
  unfold actWriteTable
  split
  · exact .same s
  · split
    · exact .same s
    · constructor <;> simp

/-- READ_TABLE changes nothing (R190). -/
@[simp] theorem actReadTable_state (id start count : Nat) (s : State) : (actReadTable id start count s).2 = s := by
  unfold actReadTable; split <;> rfl

/-- READ_REEL changes nothing (R36). -/
@[simp] theorem actReadReel_state (w : Word) (s : State) : (actReadReel w s).2 = s := by
  unfold actReadReel; split <;> rfl

/-- SELECT_GRADE keeps the verb frame (R138). -/
theorem actSelectGrade_frame (w : Word) (s : State) : VerbFrame s (actSelectGrade w s).2 := by
  unfold actSelectGrade; split
  · exact .same s
  · exact ⟨rfl, rfl, rfl, rfl, rfl, rfl, rfl, rfl, rfl, rfl, rfl, rfl, rfl, rfl⟩

/-- PLACE_CONFIRM keeps the verb frame (R174). -/
theorem actPlaceConfirm_frame (w : Word) (s : State) : VerbFrame s (actPlaceConfirm w s).2 := by
  unfold actPlaceConfirm; split
  · exact .same s
  · exact ⟨rfl, rfl, rfl, rfl, rfl, rfl, rfl, rfl, rfl, rfl, rfl, rfl, rfl, rfl⟩

/-- PLACE_REFUSE keeps the verb frame (R175). -/
theorem actPlaceRefuse_frame (w : Word) (s : State) : VerbFrame s (actPlaceRefuse w s).2 := by
  unfold actPlaceRefuse; split
  · exact .same s
  · simp only []
    split <;> exact ⟨rfl, rfl, rfl, rfl, rfl, rfl, rfl, rfl, rfl, rfl, rfl, rfl, rfl, rfl⟩

/-- A one-word action that keeps the verb frame keeps it whatever its body. -/
theorem onOneWord_frame {act : Word → State → List Word × State} {s : State} (h : ∀ w, VerbFrame s (act w s).2)
    (body : List Word) : VerbFrame s (onOneWord act body s).2 := by
  unfold onOneWord; split
  · exact h _
  · exact .same s

/-- No verb but RESET leaves the verb frame (R188 to R191). -/
theorem verbAction_frame (v : Verb) (body : List Word) (s : State) : VerbFrame s (verbAction v body s).2 := by
  have plain : ∀ w, VerbFrame s (actSetMask w s).2 ∧ VerbFrame s (actSetCeiling w s).2 := fun _ =>
    ⟨⟨rfl, rfl, rfl, rfl, rfl, rfl, rfl, rfl, rfl, rfl, rfl, rfl, rfl, rfl⟩,
     ⟨rfl, rfl, rfl, rfl, rfl, rfl, rfl, rfl, rfl, rfl, rfl, rfl, rfl, rfl⟩⟩
  cases v
  · exact .same s
  · exact ⟨rfl, rfl, rfl, rfl, rfl, rfl, rfl, rfl, rfl, rfl, rfl, rfl, rfl, rfl⟩
  · exact onOneWord_frame (fun w => (plain w).1) body
  · change VerbFrame s (onTableWrite body s).2
    unfold onTableWrite; split
    · exact actWriteTable_frame _ _ _ s
    · exact .same s
  · change VerbFrame s (onTableRead body s).2
    unfold onTableRead; split
    · rw [actReadTable_state]; exact .same s
    · exact .same s
  · exact onOneWord_frame (fun w => actSelectGrade_frame w s) body
  · change VerbFrame s (onTrim body s).2
    unfold onTrim; split
    · exact ⟨rfl, rfl, rfl, rfl, rfl, rfl, rfl, rfl, rfl, rfl, rfl, rfl, rfl, rfl⟩
    · exact .same s
  · exact onOneWord_frame (fun w => (plain w).2) body
  · exact onOneWord_frame (fun w => by rw [actReadReel_state]; exact .same s) body
  · exact .same s
  · exact onOneWord_frame (fun w => actPlaceConfirm_frame w s) body
  · exact onOneWord_frame (fun w => actPlaceRefuse_frame w s) body
  · exact .same s

end Sys2Proof.Machine
end

