-- ==== Sys2Proof/WellFormed.lean ====
section
/-! DEFINITION. Which commands the ports can carry: the pixel counts of a LINE (R4, R196) and the body length of a message (R184).
Every other operand is bounded by its type. -/
namespace Sys2Proof

/-- A LINE carries 16 to 4096 pixels in steps of 16 (R4). -/
def wfPixels (px : List Pixel) : Bool :=
  decide (16 ≤ px.length) && decide (px.length ≤ 4096) && decide (px.length % 16 = 0)

/-- A message has at most 62 body words (R184). -/
def wfBody (body : List Word) : Bool :=
  decide (body.length ≤ Config.maxBody)

/-- The command can be carried by the part's ports. -/
def Instr.wf : Instr → Bool
  | .powerOn _ => true
  | .idleCell => true
  | .reelOpen _ => true
  | .frameOpen _ _ _ => true
  | .line px => wfPixels px
  | .frameClose => true
  | .splice => true
  | .reelClose => true
  | .droppedCell _ => true
  | .serviceCell _ _ _ => true
  | .directiveCell => true
  | .ingestOutgoingCell _ => true
  | .timeout => true
  | .identify _ body => wfBody body
  | .readStatus _ body => wfBody body
  | .setMask _ body => wfBody body
  | .writeTable _ body => wfBody body
  | .readTable _ body => wfBody body
  | .selectGrade _ body => wfBody body
  | .trim _ body => wfBody body
  | .setCeiling _ body => wfBody body
  | .readReel _ body => wfBody body
  | .checksum _ body => wfBody body
  | .placeConfirm _ body => wfBody body
  | .placeRefuse _ body => wfBody body
  | .reset _ body => wfBody body
  | .emissionStart => true
  | .emissionEnd => true
  | .enterDisposing => true
  | .dispositionNotice => true
  | .acqTimeout => true
  | .exposureAdoption => true
  | .trackRetire => true
  | .nporFall => true

end Sys2Proof
end

