-- ==== Sys2Proof/Tests/Slice0.lean ====
section
/-! SUPPORT. Tests: ill-formed commands refused, cells received from written-out words, the manual's worked cases, one step of
each command, and a witness for the hypotheses of each statement. -/
namespace Sys2Proof.Tests

-- One thread a theorem is too many for the joined text under its memory limit.
set_option Elab.async false
open Sys2Proof Sys2Proof.Machine

/-! ## Small states -/

/-- The state an outcome gives; the given state where it gives none. -/
def out (o : Host.Outcome State Fault Refusal) (d : State) : State :=
  match o with
  | .next t => t
  | _ => d

/-- The state after one command. -/
def after (c : Instr) (s : State) : State := out (exec c s) s

/-- A record in a state, with a reel of 64 lines of 256 pixels and 4 holes and one frame opened. -/
def rec1 (st : ReelState) : ReelRecord :=
  { freeRecord with
    state := st, header := ⟨7, .acetate, 0, 4, 64, 256, 12⟩, counters := { zeroCounters with opened := 1 } }

/-- The two records in given states, after power-on. -/
def reels (a b : ReelState) : State := updReel 1 (fun _ => rec1 b) (updReel 0 (fun _ => rec1 a) State.reset)

/-- Slot `k` in a given state with a frame of `n` lines. -/
def put (k : Fin 4) (st : SlotState) (tag : Option (Fin 2)) (n : Nat) (l : SuccLink) (s : State) : State :=
  updSlot k (fun _ => { freeSlot with state := st, tag := tag, frameNo := 10, lineCount := n, link := l }) s

/-- The receive state set. -/
def recv (x : RxState) (s : State) : State := { s with link := { s.link with rx := x } }

/-- The emission list set. -/
def listed (l : List Entry) (s : State) : State := { s with store := { s.store with list := l } }

/-- A treated frame of `n` lines open in slot 0 of the ACTIVE reel. -/
def openFrame (n : Nat) : State :=
  listed [.frame 0] (recv (.filling 0) (put 0 .filling (some 0) n .unsettled (reels (.active .locked) .free)))

/-- A treated frame closed in slot 0 with its link unsettled, the reel ACTIVE. -/
def closedFrame : State := listed [.frame 0] (put 0 .closed (some 0) 64 .unsettled (reels (.active .locked) .free))

/-- A frame EMITTING in slot 0, its next cell at position `pos`. -/
def emitting (st : ReelState) (pos : Nat) : State :=
  let s := listed [.frame 0] (put 0 .emitting (some 0) 64 .none (reels st .free))
  { s with store := { s.store with emission := some ⟨0, pos, statusOf s (s.slot 0)⟩ } }

/-- The FRAME_CLOSE of the emission in slot 0 being sent. -/
def sending (st : ReelState) : State :=
  { emitting st 66 with link := { (emitting st 66).link with inFlight := some ⟨.frameClose, false⟩ } }

/-- The pair and framing states set. -/
def ported (p : PairState) (f : Framing) : State :=
  { State.reset with svc := { State.reset.svc with pair := p, framing := f } }

/-- A gray pixel. -/
def gray (v ir : Nat) : Pixel := ⟨BitVec.ofNat 16 v, BitVec.ofNat 16 v, BitVec.ofNat 16 v, BitVec.ofNat 16 ir⟩

/-! ## Ill-formed commands -/

/-- A LINE carries a multiple of 16 pixels, 16 to 4096 of them (R4). -/
theorem test_wf_refuses_bad_lines :
    (Instr.line []).wf = false ∧ (Instr.line (List.replicate 17 (gray 1 1))).wf = false ∧
    (Instr.line (List.replicate 4112 (gray 1 1))).wf = false ∧
    (Instr.line (List.replicate 16 (gray 1 1))).wf = true := by decide +kernel

/-- A message has at most 62 body words, whatever its verb (R184). -/
theorem test_wf_refuses_long_bodies :
    (verbCommand .writeTable 1 (List.replicate 62 0)).wf = true ∧
    ([Verb.identify, .readStatus, .setMask, .writeTable, .readTable, .selectGrade, .trim, .setCeiling, .readReel, .checksum,
      .placeConfirm, .placeRefuse, .reset].all fun v => !(verbCommand v 1 (List.replicate 63 0)).wf) = true := by
  decide +kernel

/-! ## Cells from words written out by the tables of 11.1 and 11.2 (link checks computed by hand outside the model) -/

/-- FRAME_OPEN: kind 2, class S2, step 12, frame number 101, check 0x0FB1. -/
theorem test_receive_frame_open :
    receiveScanCell [0x280C0000, 101] 0x0FB1 = .frameOpen 101 12 .s2 := by decide +kernel

/-- The same cell with one bit of its check wrong is dropped (R2). -/
theorem test_receive_bad_check :
    receiveScanCell [0x280C0000, 101] 0x0FB0 = .droppedCell .scan := by decide +kernel

/-- FRAME_CLOSE, kind 4, check 0x8039; an outgoing kind arriving is dropped (R196). -/
theorem test_receive_frame_close :
    receiveScanCell [0x40000000] 0x8039 = .frameClose ∧
    receiveScanCell [0x80000000] 0x801B = .droppedCell .scan := by decide +kernel

/-- REEL_OPEN: acetate, acid 2, E 4, step 14, 1560 lines, 2048 pixels (R197). -/
theorem test_receive_reel_open :
    scanCellOf 0x10000000 [7, 0x4002040E, 0x06180800] = .reelOpen ⟨7, 1, 2, 4, 14, 1560, 2048⟩ := by decide +kernel

/-- SERVICE: PAUSE on, slot valid, an IDENTIFY-like start word with verb 2, check 0xF907 (R196). -/
theorem test_receive_service :
    receiveIngestCell [0x90000003, 0xC6020000] 0xF907 = .serviceCell true true 0xC6020000 := by decide +kernel

/-- The first directive cell after power-on is the word 0x80000000 with check 0x801B (R15, R196). -/
theorem test_directive_after_power_on :
    (after .directiveCell State.reset).link.scanOut = some ⟨[0x80000000], 0x801B⟩ := by decide +kernel

/-- The first outgoing ingest cell after power-on is IDLE, attention 7, summary set, with check 0xF2F2 (R17, R196). -/
theorem test_ingest_cell_after_power_on :
    (after (.ingestOutgoingCell .whole) State.reset).link.ingestOut = some ⟨[0x0F000000, 0], 0xF2F2⟩ := by decide +kernel

/-! ## The manual's worked cases -/

/-- 4.10: four holes under the nominal and under the reel's pitch. -/
def holes410 : List Hole := [⟨41, 112, 121⟩, ⟨815, 110, 121⟩, ⟨1589, 113, 122⟩, ⟨2363, 111, 121⟩]

/-- 4.10: dx 3, dy −8 under pitch 12480, dy 1 under 12384, sample 12384, shrinkage 77. -/
theorem test_case_4_10 :
    (measureGood defaultRegTable 12480 ⟨41, 112, 121⟩ holes410
      { State.reset.reg with ref := some ⟨640, 118⟩ }).dy = -8 ∧
    (measureGood defaultRegTable 12384 ⟨41, 112, 121⟩ holes410
      { State.reset.reg with ref := some ⟨640, 118⟩ }).dy = 1 ∧
    pitchSample 12384 640 holes410 = some 12384 ∧ shrinkage 12384 12480 = 77 := by decide +kernel

/-- 4.3: confidences for E = 4 and E = 3. -/
theorem test_confidence :
    [4, 3, 2, 1, 0].map (fun n => confidenceOf n 4) = [64, 48, 32, 16, 0] ∧
    [3, 2, 1, 0].map (fun n => confidenceOf n 3) = [64, 42, 21, 0] := by decide +kernel

/-- 8.9: target gain, smoothing and the four stages of the red sample. -/
theorem test_case_8_9 :
    targetGain ⟨true, 0, 16384, 60000, 8192, 49152, 2, 5, 995⟩ 35839 = 27429 ∧
    fadeMove 2 24576 27429 = 25289 ∧ fadeMove 2 5120 6144 = 5376 ∧ fadeMove 2 27429 20000 = 25572 ∧
    stageFade ⟨5376, 25289⟩ 30000 = 38008 ∧ stageTrim 4096 (-200) 40286 = 40086 := by decide +kernel

/-- 5.3: the class steps down after D0 held frames; D0 is 6 by default. -/
theorem test_speed_steps_down :
    (speedClose false false true 16 56 { State.reset.xport with heldRun := 5 }).cls = .s1 ∧
    (speedClose false false true 16 56 { State.reset.xport with heldRun := 4 }).cls = .s0 ∧
    (speedClose true false false 64 56 State.reset.xport).cls = .s3 := by decide +kernel

/-! ## One step of each command: the expected results are worked by hand from the rule of the command -/

theorem test_power_on : (after (.powerOn 5) closedFrame).link.lane = 5 ∧ (after (.powerOn 5) closedFrame).store.list = [] := by
  decide +kernel

theorem test_idle_cell : after .idleCell closedFrame = closedFrame := by rfl

theorem test_reel_open :
    ((after (.reelOpen ⟨9, 2, 7, 0, 40, 5000, 300⟩) State.reset).reel 0).header = ⟨9, .polyester, 3, 1, 3120, 288, 31⟩ ∧
    ((after (.reelOpen ⟨9, 2, 7, 0, 40, 5000, 300⟩) State.reset).reel 0).state = .active .acquiring ∧
    (after (.reelOpen ⟨9, 2, 7, 0, 40, 5000, 300⟩) State.reset).xport.cls = .s2 := by decide +kernel

theorem test_frame_open_is_adjacent :
    ((after (.frameOpen 11 12 .s1) closedFrame).slot 0).link = .pending 1 ∧
    ((after (.frameOpen 11 12 .s1) closedFrame).slot 1).state = .filling ∧
    ((after (.frameOpen 11 12 .s1) closedFrame).reel 0).counters.opened = 2 := by decide +kernel

theorem test_frame_open_is_not_adjacent :
    ((after (.frameOpen 12 12 .s3) closedFrame).slot 0).state = .emitting ∧
    ((after (.frameOpen 12 12 .s3) closedFrame).reel 0).counters.creep = 1 := by decide +kernel

theorem test_line_of_wrong_length :
    (after (.line (List.replicate 16 (gray 1 60000))) (openFrame 3)).link.rx = .ignoring ∧
    ((after (.line (List.replicate 16 (gray 1 60000))) (openFrame 3)).reel 0).counters.discarded = 1 := by decide +kernel

theorem test_frame_close_short :
    (after .frameClose (openFrame 63)).svc.causes.linkFault = true ∧
    ((after .frameClose (openFrame 63)).slot 0).state = .free := by decide +kernel

theorem test_frame_close_held :
    ((after .frameClose (openFrame 64)).slot 0).regHeld = true ∧
    ((after .frameClose (openFrame 64)).reel 0).counters.held = 1 ∧
    (after .frameClose (openFrame 64)).link.rx = .between := by decide +kernel

theorem test_splice :
    (after .splice closedFrame).store.spliceSeen = true ∧ ((after .splice closedFrame).slot 0).link = .none ∧
    ((after .splice closedFrame).slot 0).state = .emitting := by decide +kernel

theorem test_reel_close_disposes :
    ((after .reelClose (reels (.active .acquiring) .free)).reel 0).state = .free ∧
    (after .reelClose (reels (.active .acquiring) .free)).reels.last.reason = .noBay ∧
    (after .reelClose (reels (.active .acquiring) .free)).svc.causes.acqFailed = true := by decide +kernel

theorem test_dropped_cells :
    (after (.droppedCell .scan) State.reset).link.errors = 1 ∧
    (after (.droppedCell .ingest) (ported (.haveFirst 1) .waiting)).svc.faultKind = .orphan := by decide +kernel

theorem test_service_cell_pairs :
    (after (.serviceCell false true 7) State.reset).svc.pair = .haveFirst 7 ∧
    (after (.serviceCell false true 8) (ported (.haveFirst 7) .waiting)).svc.faultKind = .mismatch ∧
    (after (.serviceCell false true 8) (ported (.haveFirst 8) .waiting)).svc.stray = 1 := by decide +kernel

theorem test_service_cell_starts_message :
    (after (.serviceCell true true 0xC6030105) (ported (.haveFirst 0xC6030105) .waiting)).svc.framing =
      .collecting [0xC6030105] 1 0 := by decide +kernel

theorem test_ingest_control_leaves :
    (after (.ingestOutgoingCell .whole) (listed [.splice] State.reset)).store.list = [] := by decide +kernel

theorem test_timeout :
    (after .timeout (ported .expectFirst (.collecting [0] 1 4096))).svc.faultKind = .timeout ∧
    (after .timeout (ported .expectFirst (.collecting [0] 1 4095))).svc.faultKind = .none := by decide +kernel

theorem test_identify :
    (after (.identify 9 []) State.reset).svc.queue = [⟨false, [0xC6810409, 0, 0x412, 1, 0]⟩] := by decide +kernel

theorem test_read_status :
    (after (.readStatus 9 []) State.reset).svc.queue = [⟨false, [0xC6820609, 0, 0x400, 0, 0, 0, 0x80]⟩] ∧
    (after (.readStatus 9 []) State.reset).svc.resetSeen = false := by decide +kernel

theorem test_set_mask : (after (.setMask 9 [0xFFFFFFFF]) State.reset).svc.mask = 0x7FF := by decide +kernel

theorem test_write_table :
    (after (.writeTable 9 [1, 4, 0, 9999]) State.reset).reg.table.holeMin = 1 ∧
    (after (.writeTable 9 [1, 4, 0, 9999]) State.reset).reg.table.holeMax = 3120 ∧
    (after (.writeTable 9 [1, 4, 0, 9999]) State.reset).svc.queue = [⟨false, [0xC6840209, 0, 2]⟩] := by decide +kernel

theorem test_read_table :
    (after (.readTable 9 [2, 4, 2]) State.reset).svc.queue = [⟨false, [0xC6850309, 0, 40000, 2]⟩] ∧
    (after (.readTable 9 [2, 5, 2]) State.reset).svc.queue = [⟨false, [0xC6850109, 3]⟩] := by decide +kernel

theorem test_select_grade :
    (after (.selectGrade 9 [5]) State.reset).grade.sel = .programmed ∧
    (after (.selectGrade 9 [5]) closedFrame).svc.queue = [⟨false, [0xC6860109, 4]⟩] := by decide +kernel

theorem test_trim :
    (after (.trim 9 [9000, 0, 4096, 0xFFFFFF38, 4096, 0]) State.reset).grade.pendingTrim = ⟨⟨8191, 0, 4096⟩, ⟨-200, 4095, 0⟩⟩ ∧
    (after (.trim 9 [9000, 0, 4096, 0xFFFFFF38, 4096, 0]) State.reset).svc.queue = [⟨false, [0xC6870209, 0, 2]⟩] := by
  decide +kernel

theorem test_set_ceiling :
    (after (.setCeiling 9 [7]) State.reset).xport.cls = .s3 ∧ (after (.setCeiling 9 [2]) State.reset).xport.ceiling = .s2 := by
  decide +kernel

theorem test_read_reel :
    ((after (.readReel 9 [2]) State.reset).svc.queue.map (·.words.take 3)) = [[0xC6891809, 0, 0x0F000000]] ∧
    (after (.readReel 9 [3]) State.reset).svc.queue = [⟨false, [0xC6890109, 3]⟩] := by decide +kernel

theorem test_checksum :
    (after (.checksum 9 []) { State.reset with grade := { State.reset.grade with progCheck := 0x1234 } }).svc.queue =
      [⟨false, [0xC68A0209, 0, 0x1234]⟩] := by decide +kernel

/-- A pending placement with id 3 in bay 0, confirmed and refused. -/
def placed (attempts : Nat) : State :=
  { State.reset with shelf := { State.reset.shelf with placements := [⟨3, 77, 0, .classA, .acetate, false, attempts⟩] } }

theorem test_place_confirm :
    ((after (.placeConfirm 9 [3]) (placed 1)).shelf.bays.get 0).occupied = 1 ∧
    (after (.placeConfirm 9 [4]) (placed 1)).svc.queue = [⟨false, [0xC68B0109, 5]⟩] := by decide +kernel

theorem test_place_refuse :
    (after (.placeRefuse 9 [3]) (placed 1)).shelf.placements = [] ∧
    (after (.placeRefuse 9 [3]) (placed 2)).svc.queue = [⟨false, [0xC68C0309, 0, 0x03240002, 77]⟩] := by decide +kernel

theorem test_reset :
    (after (.reset 9 []) closedFrame).svc.queue = [⟨false, [0xC68D0109, 0]⟩] ∧
    (after (.reset 9 []) closedFrame).store.list = [] := by decide +kernel

theorem test_emission_start :
    ((after .emissionStart (listed [.frame 0] (put 0 .closed none 3 .none State.reset))).slot 0).state = .emitting := by
  decide +kernel

theorem test_emission_end :
    ((after .emissionEnd (sending (.active .locked))).slot 0).state = .free ∧
    ((after .emissionEnd (sending (.active .locked))).reel 0).counters.emitted = 1 := by decide +kernel

theorem test_enter_disposing :
    ((after .enterDisposing (reels .draining .free)).reel 0).state = .free ∧
    (after .enterDisposing (reels .draining .free)).reels.last.outcome = .unplaced := by decide +kernel

/-- A record waiting in DISPOSING with the notice position free. -/
def waiting : State :=
  { reels .disposing .free with reels := { (reels .disposing .free).reels with waiting := [0] } }

theorem test_disposition_notice : (after .dispositionNotice waiting).svc.queue.length = 1 := by decide +kernel

/-- The frame of slot 0 at its close, the acquisition collecting, with `count` samples, `since` frames since the opening,
a mismatch count and a track list. -/
def closing (count since mismatch : Nat) (tracks : List Track) : State :=
  let s := updReel 0 (fun x => { x with state := .active .acquiring }) (openFrame 64)
  { s with
    reg := { s.reg with sum := count * 12384, count := count, sinceOpen := since }
    xport := { s.xport with mismatch := mismatch, cmdStep := 9 }
    defect := { s.defect with tracks := tracks } }

theorem test_acq_timeout :
    ((after .acqTimeout (closing 24 96 0 [])).reel 0).reelShrinkage = some 77 ∧
    ((after .acqTimeout (closing 23 96 0 [])).reel 0).state = .active .failed := by decide +kernel

theorem test_exposure_adoption :
    (after .exposureAdoption (closing 0 1 4 [])).xport.stale = true ∧
    (after .exposureAdoption (closing 0 1 3 [])).xport.cmdStep = 9 := by decide +kernel

theorem test_track_retire :
    (after .trackRetire (closing 0 1 0 [⟨5, 9, 3, 4, 5, .confirmed, false⟩, ⟨50, 55, 3, 4, 4, .confirmed, false⟩])).defect.tracks =
      [⟨50, 55, 3, 4, 4, .confirmed, false⟩] ∧
    ((after .trackRetire (closing 0 1 0 [⟨5, 9, 3, 4, 5, .confirmed, false⟩])).reel 0).counters.scratches = 1 := by decide +kernel

theorem test_npor_fall : (after .nporFall closedFrame).npor = false ∧ (after .nporFall closedFrame).store.list = [] := by
  decide +kernel

/-! ## Witnesses: a state and operands that meet the hypotheses of each statement, clause by clause -/

/-- The settled LOAD_HOLD of a state, as a Bool. -/
def held (s : State) : Bool := decide (s.xport.loadHold = (s.xport.hyst || bothOccupied s))

theorem witness_step_empty_queue : State.reset.pending = [] := by decide

theorem witness_npor_low : (after .nporFall State.reset).npor = false ∧ Instr.splice ≠ .nporFall ∧
    ∀ lane, Instr.splice ≠ .powerOn lane := ⟨by decide +kernel, by decide, by intro _ h; cases h⟩

/-- A reply of one word with its first copy sent, the same between words, and a word left over already. -/
theorem witness_reset_verb :
    (let s := { State.reset with svc := { State.reset.svc with queue := [⟨false, [3]⟩], copies := 1 } }
     s.npor = true ∧ s.svc.leftover = none ∧ s.svc.copies % 2 = 1 ∧ slotDue s = some 3 ∧
       (after (.reset 9 []) s).svc.leftover = some 3) ∧
    (State.reset.svc.leftover = none ∧ State.reset.svc.copies % 2 = 0 ∧ State.reset.store.emission = none) ∧
    ({ State.reset with svc := { State.reset.svc with leftover := some 5 } } : State).svc.leftover = some 5 := by
  decide +kernel

/-- A frame of `n` lines open in slot 0 with one region, an overflow and counted samples. -/
def scratched (n : Nat) : State :=
  updSlot 0 (fun x => { x with
    regions := [⟨3, 5, 1, 2, true, none, false⟩], defectOverflow := true, regionsLost := 2,
    hist := rgbAll (Vector.replicate 64 1) }) (openFrame n)

/-- The filling frame's defect state and histograms are cleared with its slot at a RESET, and its defect state at a LINK_FAULT
discard (R117, R118, R156, R157). -/
theorem test_freed_frames_are_cleared :
    (((scratched 3).slot 0).state = .filling ∧ ((after (.reset 9 []) (scratched 3)).slot 0).regions = [] ∧
      ((after (.reset 9 []) (scratched 3)).slot 0).hist = emptyHist ∧ (closedFrame.slot 0).state ≠ .filling) ∧
    ((after .frameClose (scratched 3)).slot 0).regions = [] ∧
    ((after .frameClose (scratched 3)).slot 0).regionsLost = 0 := by decide +kernel

/-- An emission cut off, in a pause and out of one, with an earlier summary waiting; its FRAME_CLOSE under way. -/
theorem witness_reset_aborts :
    (let s := emitting (.active .locked) 3
     s.npor = true ∧ s.store.emission.isSome = true ∧ s.link.inFlight = none ∧ s.link.pause = false ∧
       (after (.reset 9 []) s).link.aborted.length = 1 ∧
       (after (.reset 9 []) (after (.serviceCell true false 0) s)).link.pause = true) ∧
    (let s := emitting (.active .locked) 3
     (after (.reset 9 []) { s with link := { s.link with aborted := [⟨0, 0, 0, true, false, false⟩] } }).link.aborted =
       [⟨0, 0, 0, true, false, false⟩, summaryOf s 0 true]) ∧
    (sending (.active .locked)).store.emission.isSome = true ∧
      (sending (.active .locked)).link.inFlight = some ⟨.frameClose, false⟩ := by decide +kernel

/-- The last line of a frame; one line more does not fit. -/
theorem witness_line :
    (openFrame 63).npor = true ∧ (openFrame 63).loadHoldSettled ∧ (openFrame 63).link.rx = .filling 0 ∧
    ((openFrame 63).slot 0).tag = some 0 ∧
    (List.replicate 256 (gray 1 1)).length = ((openFrame 63).reel 0).header.pixels ∧
    ((openFrame 63).slot 0).lineCount < ((openFrame 63).reel 0).header.lines := by
  refine ⟨?_, of_decide_eq_true (p := _ = _) ?_, ?_, ?_, ?_, ?_⟩ <;> decide +kernel

/-- An untreated frame of `n` lines open in slot 2. -/
def untreated (n : Nat) : State := recv (.filling 2) (put 2 .filling none n .none State.reset)

theorem witness_untreated_line :
    held (untreated 3119) = true ∧ (untreated 3119).npor = true ∧ (untreated 3119).link.rx = .filling 2 ∧
    ((untreated 3119).slot 2).tag = none ∧ ((untreated 3119).slot 2).lineCount < 3120 ∧
    (untreated 3120).link.rx = .filling 2 ∧ 3120 ≤ ((untreated 3120).slot 2).lineCount := by decide +kernel

/-- Too short a line, one line too many, and a close one line early. -/
theorem witness_wrong_geometry :
    ((openFrame 0).link.rx = .filling 0 ∧ ((openFrame 0).reel 0).isActive = true ∧
      (List.replicate 16 (gray 1 1)).length ≠ ((openFrame 0).reel 0).header.pixels) ∧
    ((openFrame 64).reel 0).header.lines ≤ ((openFrame 64).slot 0).lineCount ∧
    ((openFrame 63).slot 0).lineCount ≠ ((openFrame 63).reel 0).header.lines := by decide +kernel

theorem witness_stray_cells :
    held closedFrame = true ∧ closedFrame.npor = true ∧ closedFrame.link.rx = .between ∧
    (recv .ignoring closedFrame).link.rx = .ignoring := by decide +kernel

/-- Slot 0 is taken and slot 1 is the lowest FREE one. -/
theorem witness_frame_open_slot :
    closedFrame.npor = true ∧ closedFrame.link.rx = .between ∧ (closedFrame.slot 1).state = .free ∧
    (∀ j < (1 : Fin 4), (closedFrame.slot j).state ≠ .free) ∧ activeRec closedFrame = some 0 := by decide +kernel

/-- A closed frame in slot 0 and the other slots taken by untreated frames. -/
def fullStore : State :=
  put 3 .closed none 0 .none (put 2 .closed none 0 .none (put 1 .closed none 0 .none closedFrame))

theorem witness_frame_open_dropped :
    fullStore.npor = true ∧ fullStore.link.rx = .between ∧ (∀ k, (fullStore.slot k).state ≠ .free) ∧
    (fullStore.slot 0).link = .unsettled ∧ activeRec fullStore = some 0 := by decide +kernel

/-- An adjacent number with a slot FREE, a number that is not adjacent, and no slot FREE. -/
theorem witness_successor_link :
    ((closedFrame.slot 0).state ≠ .free ∧ (closedFrame.slot 0).link = .unsettled ∧ freeSlotIdx closedFrame = some 1 ∧
      (closedFrame.slot 0).tag = some 0 ∧ activeRec closedFrame = some 0 ∧
      (closedFrame.slot 0).frameNo.toNat + 1 = (11 : Word).toNat) ∧
    (closedFrame.slot 0).frameNo.toNat + 1 ≠ (12 : Word).toNat ∧ freeSlotIdx fullStore = none := by decide +kernel

theorem witness_open_frame :
    (openFrame 64).npor = true ∧ (openFrame 64).link.rx = .filling 0 ∧ ((openFrame 64).slot 0).tag = some 0 ∧
    ((openFrame 64).reel 0).isActive = true ∧
    ((openFrame 64).slot 0).lineCount = ((openFrame 64).reel 0).header.lines := by decide +kernel

/-- A treated frame cut short: slot 0 before a higher FREE one, slot 2 behind a lower FREE one; a REEL_OPEN that drains its
reel, that disposes it at once, and that leaves it waiting for the notice position. -/
theorem witness_cut_short :
    (freeSlotIdx (openFrame 3) = some 1 ∧ (after (.frameOpen 5 3 .s0) (openFrame 3)).link.rx = .filling 0) ∧
    (let s := recv (.filling 2) (put 2 .filling (some 0) 3 .unsettled (reels (.active .locked) .free))
     freeSlotIdx s = some 0 ∧ (after (.frameOpen 5 3 .s0) s).link.rx = .filling 0 ∧
       ((after (.frameOpen 5 3 .s0) s).slot 2).state = .free) ∧
    (let s := put 1 .closed (some 0) 64 .none (openFrame 3)
     activeRec s = some 0 ∧ ((after (.reelOpen ⟨9, 2, 7, 0, 40, 5000, 300⟩) s).reel 0).state = .draining) ∧
    (after (.reelOpen ⟨9, 2, 7, 0, 40, 5000, 300⟩) (openFrame 3)).reels.last.counters.discarded = 1 ∧
    (let s := { openFrame 3 with svc := { State.reset.svc with queue := [⟨true, [1, 2]⟩] } }
     ((after (.reelOpen ⟨9, 2, 7, 0, 40, 5000, 300⟩) s).reel 0).state = .disposing) := by decide +kernel

/-- An untreated frame open, at the head of the list, and one that fills the last slot. -/
theorem witness_untreated_frame :
    (let s := listed [.frame 2] (untreated 5)
     s.npor = true ∧ s.link.rx = .filling 2 ∧ (s.slot 2).tag = none ∧ s.store.list = [.frame 2] ∧
       anyEmitting s = false ∧ (s.slot 2).link = .none) ∧
    freeSlotIdx (recv (.filling 3) (put 3 .filling none 1 .none fullStore)) = none := by decide +kernel

/-- The frame of slot 0 at its close with the holes of 4.10 found: a pitch sample of 12384. -/
def measured (count since : Nat) : State :=
  let s := closing count since 0 []
  { s with reg := { s.reg with hole := ⟨none, holes410, 4⟩ } }

/-- The acquisition step at each of its bounds: the 24th sample at the 96th frame, the 23rd, the 95th frame, no acquisition. -/
theorem witness_acquisition_step :
    (collecting ((measured 23 95).reel 0) = true ∧ (after .frameClose (measured 23 95)).reg.count = 24 ∧
      ((measured 23 95).slot 0).latch.reg.acqMin = 24 ∧ (after .frameClose (measured 23 95)).reg.sinceOpen = 96 ∧
      ((measured 23 95).slot 0).latch.reg.acqTimeout = 96 ∧
      ((after .frameClose (measured 23 95)).reel 0).peakShrinkage = some 77) ∧
    (after .frameClose (measured 22 95)).reg.count = 23 ∧
    ((after .frameClose (measured 23 94)).reg.sinceOpen = 95 ∧
      ((after .frameClose (measured 23 94)).reel 0).state = .active .lockedCollecting) ∧
    (collecting ((openFrame 64).reel 0) = false ∧ (after .frameClose (openFrame 64)).reg.count = 0) := by decide +kernel

/-- A torn frame, a frame of the leader, a held one and a good one: the four ways of the speed decision. -/
theorem witness_speed_decision :
    ((after .frameClose (updSlot 0 (fun x => { x with regions := [⟨0, 4095, 0, 9, true, none, false⟩] })
      (openFrame 64))).xport.cls = .s3) ∧
    ((after .frameClose (measured 0 0)).reel 0).state = .active .acquiring ∧
    (let s := { openFrame 64 with xport := { (openFrame 64).xport with heldRun := 5 } }
     ((after .frameClose s).slot 0).regHeld = true ∧ s.xport.cls = .s0 ∧
       s.xport.table.d0 ≤ satAdd 65535 s.xport.heldRun 1 ∧ (after .frameClose s).xport.cls = .s1) ∧
    (let s := { measured 23 95 with xport := { (measured 23 95).xport with cls := .s2, goodRun := 47 } }
     ((after .frameClose s).slot 0).regHeld = false ∧ (s.slot 0).latch.reg.upConf ≤ ((after .frameClose s).slot 0).confidence ∧
       s.xport.table.u ≤ satAdd 65535 s.xport.goodRun 1 ∧ (after .frameClose s).xport.cls = .s1) := by decide +kernel

/-- The frame of slot 0 at its close, its report the commanded step `step` and its bins equal in the three channels. -/
def exposed (step : Nat) (h : Vector Nat 64) : State :=
  let s := updSlot 0 (fun x => { x with hist := ⟨h, h, h⟩, repStep := step }) (openFrame 64)
  { s with xport := { s.xport with cmdStep := step } }

/-- A clipped frame, a dark one at both ends of the range, one with no sample, and the fourth mismatch. -/
theorem witness_exposure_decision :
    (let h := (Vector.replicate 64 0).set 63 3
     histCount h * 2 < h[63] * 1000 ∧ (after .frameClose (exposed 9 h)).xport.cmdStep = 8 ∧
       (after .frameClose (exposed 0 h)).xport.cmdStep = 0) ∧
    (let h := (Vector.replicate 64 0).set 0 3
     1 ≤ histCount h ∧ highPoint h 995 < 40000 ∧ (after .frameClose (exposed 9 h)).xport.cmdStep = 10 ∧
       (after .frameClose (exposed 31 h)).xport.cmdStep = 31) ∧
    (histCount (Vector.replicate 64 0) = 0 ∧
      (after .frameClose (exposed 9 (Vector.replicate 64 0))).xport.cmdStep = 9) ∧
    ((closing 0 1 3 []).xport.mismatch + 1 = 4 ∧ (after .frameClose (closing 0 1 3 [])).xport.stale = true ∧
      (after .frameClose (closing 0 1 2 [])).xport.stale = false) := by decide +kernel

/-- A reel ACTIVE and none ACTIVE; 15 and 16 control entries listed. -/
theorem witness_splice :
    (closedFrame.npor = true ∧ closedFrame.link.rx = .between ∧ activeRec closedFrame = some 0) ∧
    activeRec State.reset = none ∧
    ((listed (List.replicate 15 .splice) State.reset).store.list.filter isControl).length < 16 ∧
    16 ≤ ((listed (List.replicate 16 .splice) State.reset).store.list.filter isControl).length := by decide +kernel

/-- A frame closed in slot 0 with the acquisition collecting, `n` samples in hand and a close-test copy. -/
def collectingWith (n : Nat) (c : Option CloseCopy) : State :=
  let s := updReel 0 (fun x => { x with state := .active .lockedCollecting }) closedFrame
  { s with reg := { s.reg with sum := n * 12384, count := n, closeCopy := c } }

theorem witness_reel_close_drains :
    (closedFrame.link.rx = .between ∧ activeRec closedFrame = some 0 ∧ 0 < storeCount closedFrame 0 ∧
      collecting (closedFrame.reel 0) = false) ∧
    (activeRec (collectingWith 24 (some ⟨24, 12480⟩)) = some 0 ∧ 0 < storeCount (collectingWith 24 none) 0 ∧
      collecting ((collectingWith 24 (some ⟨24, 12480⟩)).reel 0) = true ∧
      (collectingWith 24 (some ⟨24, 12480⟩)).reg.closeCopy = some ⟨24, 12480⟩ ∧
      24 ≤ (collectingWith 24 (some ⟨24, 12480⟩)).reg.count) ∧
    (collectingWith 23 (some ⟨24, 12480⟩)).reg.count < 24 ∧ (collectingWith 0 none).reg.closeCopy = none := by
  decide +kernel

theorem witness_reel_close_disposes :
    (let s := reels (.active .locked) .draining
     s.npor = true ∧ s.link.rx = .between ∧ activeRec s = some 0 ∧ storeCount s 0 = 0 ∧ noticeFree s = true ∧
       s.reels.waiting = [] ∧ collecting (s.reel 0) = false) ∧
    activeRec State.reset = none ∧ State.reset.link.rx = .between := by decide +kernel

/-- Record 0 FREE, and record 1 FREE with record 0 DRAINING. -/
theorem witness_reel_open :
    (activeRec State.reset = none ∧ (State.reset.reel 0).state = .free ∧
      ∀ k, (State.reset.slot k).state ≠ .free → (State.reset.slot k).tag ≠ some 0) ∧
    (let s := put 0 .closed (some 0) 64 .none (reels .draining .free)
     s.npor = true ∧ s.link.rx = .between ∧ activeRec s = none ∧ (s.reel 1).state = .free ∧
       (∀ q < (1 : Fin 2), (s.reel q).state ≠ .free) ∧
       ∀ k, (s.slot k).state ≠ .free → (s.slot k).tag ≠ some 1) := by decide +kernel

/-- Both records occupied and none ACTIVE; an implicit close with the other record FREE, and with it DRAINING. -/
theorem witness_reel_open_refused :
    ((reels .draining .disposing).npor = true ∧ activeRec (reels .draining .disposing) = none ∧
      ∀ q, ((reels .draining .disposing).reel q).state ≠ .free) ∧
    (activeRec closedFrame = some 0 ∧ 0 < storeCount closedFrame 0 ∧ (closedFrame.reel 1).state = .free ∧
      ∀ k, (closedFrame.slot k).state ≠ .free → (closedFrame.slot k).tag ≠ some 1) ∧
    (let s := put 0 .closed (some 0) 64 .none (reels (.active .locked) .draining)
     activeRec s = some 0 ∧ 0 < storeCount s 0 ∧ (s.reel 1).state ≠ .free) := by decide +kernel

/-- An implicit close of a reel with no frame left: the new reel opens in the same record, in the other one, and, with the
notice position taken, in the other one or not at all; the close test fails with no frame closed. -/
theorem witness_implicit_close_of_an_empty_reel :
    (let s := reels (.active .lockedCollecting) .draining
     s.npor = true ∧ s.link.rx = .between ∧ activeRec s = some 0 ∧ storeCount s 0 = 0 ∧ noticeFree s = true ∧
       s.reels.waiting = [] ∧ closeTestFails s 0 = true ∧
       ((after (.reelOpen ⟨9, 2, 7, 0, 40, 5000, 300⟩) s).reel 0).state = .active .acquiring) ∧
    (let s := reels .free (.active .locked)
     activeRec s = some 1 ∧ storeCount s 1 = 0 ∧ (s.reel 0).state = .free ∧ collecting (s.reel 1) = false ∧
       ∀ k, (s.slot k).state ≠ .free → (s.slot k).tag ≠ some 0) ∧
    (let s := { reels (.active .locked) .free with
       svc := { State.reset.svc with queue := [⟨true, [1, 2]⟩] } }
     activeRec s = some 0 ∧ noticeFree s = false ∧ (s.reel 1).state = .free) := by decide +kernel

/-- R5's examples. -/
theorem test_header_pixels : [5000, 300, 250].map clampPixels = [4096, 288, 256] := by decide

theorem witness_link_errors :
    State.reset.npor = true ∧ replyFree State.reset = true ∧ 65534 < 65535 ∧
    ({ State.reset with link := { State.reset.link with errors := 65535 } } : State).link.errors ≤ 65535 ∧
    ((∀ p, Instr.splice ≠ .droppedCell p) ∧ (∀ tag b, Instr.splice ≠ .readStatus tag b) ∧
      (∀ tag b, Instr.splice ≠ .reset tag b) ∧ (∀ p v w, Instr.splice ≠ .serviceCell p v w) ∧
      (∀ lane, Instr.splice ≠ .powerOn lane) ∧ Instr.splice ≠ .nporFall) := by
  refine ⟨by decide +kernel, by decide +kernel, by decide, by decide +kernel, ?_⟩
  exact ⟨by simp, by simp, by simp, by simp, by simp, by decide⟩

/-- A first copy held, the second one different, absent, or a stray word of body count 63. -/
theorem witness_pair_faults :
    (ported (.haveFirst 7) .waiting).npor = true ∧ held (ported (.haveFirst 7) .waiting) = true ∧
    (ported (.haveFirst 7) .waiting).svc.pair = .haveFirst 7 ∧ (8 : Word) ≠ 7 ∧
    (ported (.haveFirst 0xC6013F00) .waiting).svc.framing = .waiting ∧ isStart 0xC6013F00 = false := by decide +kernel

/-- Body counts 1 and 62, two words due, and a timeout count of 4094. -/
theorem witness_service_cell :
    (State.reset.svc.pair = .expectFirst ∧ State.reset.svc.framing = .waiting ∧ true ≠ State.reset.link.pause) ∧
    ({ State.reset with svc := { State.reset.svc with mask := 0x080 } } : State).svc.mask.getLsbD 7 = true ∧
    (isStart 0xC6030105 = true ∧ 0 < bitsOf 0xC6030105 15 8 ∧ isStart 0xC6043E05 = true) ∧
    ((ported (.haveFirst 5) (.collecting [0xC6060205] (0 + 2) 9)).svc.framing = .collecting [0xC6060205] (0 + 2) 9 ∧
      (ported (.haveFirst 5) (.collecting [0xC6060205] 2 9)).svc.pair = .haveFirst 5) ∧
    (ported .expectFirst (.collecting [0xC6060205] 2 4094)).svc.framing = .collecting [0xC6060205] 2 4094 ∧
      4094 + 1 < 4096 := by decide +kernel

/-- RESET and IDENTIFY complete with their start word; the last of 62 body words completes a WRITE_TABLE. -/
theorem witness_completed_message :
    (held (ported (.haveFirst 0xC60D0007) .waiting) = true ∧ startWord (verbCode .reset) 0 (7 : Byte).toNat = 0xC60D0007 ∧
      startWord (verbCode .identify) 0 (7 : Byte).toNat = 0xC6010007) ∧
    (ported (.haveFirst 5) (.collecting [startWord (verbCode .writeTable) 62 (7 : Byte).toNat] 1 0)).svc.framing =
      .collecting [startWord (verbCode .writeTable) 62 (7 : Byte).toNat] 1 0 ∧
    startWord (verbCode .writeTable) 62 (7 : Byte).toNat = 0xC6043E07 := by decide +kernel

/-- Counts 4095 and 4096 at a TIMEOUT, 4094 and 4095 at a cell, and no message open. -/
theorem witness_timeout :
    (ported .expectFirst (.collecting [0] 1 4095)).svc.framing = .collecting [0] 1 4095 ∧ 4095 < 4096 ∧
    (ported .expectFirst (.collecting [0] 1 4096)).svc.framing = .collecting [0] 1 4096 ∧ 4094 + 1 < 4096 ∧
    4095 + 1 = 4096 ∧ held (ported .expectFirst (.collecting [0] 1 4095)) = true ∧
    (ported .expectFirst .waiting).svc.framing = .waiting ∧
    (ported (.haveFirst 0xC6030105) .waiting).svc.pair = .haveFirst 0xC6030105 ∧ isStart 0xC6030105 = true := by
  decide +kernel

theorem witness_directive :
    ({ State.reset with xport := { State.reset.xport with cmdStep := 31 } } : State).xport.cmdStep ≤ 31 ∧
    State.reset.npor = true := by decide +kernel

/-- The widest line has pixel count field 255; records at the ends of their ranges. -/
theorem witness_outgoing_layout :
    (List.replicate 4096 (gray 1 1)).length = 16 * (255 + 1) ∧ 7 ≤ 7 ∧
    (clampHeader ⟨9, 2, 7, 9, 40, 5000, 300⟩).acid ≤ 3 ∧ (clampHeader ⟨9, 2, 7, 9, 40, 5000, 300⟩).holes ≤ 8 ∧
    (-128 : Int).natAbs ≤ 128 ∧ (statusOf closedFrame (closedFrame.slot 0)).fade.r.gain ≤ 65535 ∧
    [gray 1 1][0]? = some (gray 1 1) ∧ (summaryOf closedFrame 0 true).lost ≤ 65535 := by
  refine ⟨by simp only [List.length_replicate], by decide, ?_⟩
  decide +kernel

/-- A message of two words at the head of the queue, its copy `c` next, and record 0 waiting if `w`. -/
def queued (c : Nat) (w : Bool) : State :=
  let s := reels .disposing .free
  { s with
    link := { s.link with pause := true }
    reels := { s.reels with waiting := if w then [0] else [] }
    svc := { s.svc with queue := [⟨true, [1, 2]⟩, ⟨false, [3]⟩], copies := c } }

/-- A pause; the emission at its first cell, its last line and its FRAME_CLOSE; a control entry at the head. -/
theorem witness_ingest_outgoing :
    (State.reset.link.inFlight = none ∧ slotDue State.reset = none ∧ slotDue (queued 3 false) = some 2 ∧
      (after (.reset 9 []) (emitting (.active .locked) 3)).link.aborted.length = 1 ∧
      ({ State.reset with link := { State.reset.link with pause := true } } : State).link.pause = true) ∧
    ((emitting (.active .locked) 0).store.emission.map (·.pos) = some 0 ∧
      linesToSend (emitting (.active .locked) 0) 0 = 64 ∧ (emitting (.active .locked) 0).link.inFlight = none ∧
      (emitting (.active .locked) 64).store.emission.map (·.pos) = some 64 ∧
      (emitting (.active .locked) 65).store.emission.map (·.pos) = some (linesToSend (emitting (.active .locked) 65) 0 + 1)) ∧
    ((listed [.reelClose] State.reset).store.list = [.reelClose] ∧ isControl .reelClose = true ∧
      (listed [.reelClose] State.reset).store.emission = none ∧ anyEmitting (listed [.reelClose] State.reset) = false) := by
  decide +kernel

theorem witness_message_words :
    ((queued 0 false).link.inFlight = none ∧ (queued 0 false).svc.leftover = none ∧
      (queued 0 false).svc.queue = [⟨true, [1, 2]⟩, ⟨false, [3]⟩] ∧
      [1, 2][(queued 0 false).svc.copies / 2]? = some 1 ∧ (queued 0 false).svc.copies + 1 < 2 * [1, 2].length) ∧
    ([1, 2][(queued 3 false).svc.copies / 2]? = some 2 ∧ (queued 3 false).svc.copies + 1 = 2 * [1, 2].length ∧
      (queued 3 false).link.pause = true ∧ (queued 3 false).reels.waiting = []) ∧
    ((queued 3 true).reels.waiting = [0] ∧ (composeEmitted (queued 3 true)).2.1 ≠ .frameClose) ∧
    (composeEmitted (emitting (.active .locked) 3)).2.1 ≠ .frameClose := by decide +kernel

/-- A treated frame ready to start, with and without a written trim; an untreated one; a slot EMITTING. -/
theorem witness_emission_start :
    (let s := listed [.frame 0] (put 0 .closed (some 0) 64 .none (reels .draining .free))
     s.npor = true ∧ s.store.list = [.frame 0] ∧ anyEmitting s = false ∧ (s.slot 0).state = .closed ∧
       linkSettled (s.slot 0).link = true ∧ (s.slot 0).tag = some 0 ∧ (s.reel 0).state ≠ .free ∧
       s.grade.written = false ∧ (after (.trim 1 [0, 0, 0, 0, 0, 0]) s).grade.written = true) ∧
    ((listed [.frame 0] (put 0 .closed none 3 .none State.reset)).slot 0).tag = none ∧
    held (emitting (.active .locked) 3) = true ∧ anyEmitting (emitting (.active .locked) 3) = true := by decide +kernel

/-- The end of an emission with a KEPT predecessor, a successor that waits, and the next frame ready. -/
theorem witness_emission_end :
    (let s := sending (.active .locked)
     s.npor = true ∧ s.store.emission.map (·.slot) = some 0 ∧ s.link.inFlight = some ⟨.frameClose, false⟩ ∧
       (s.slot 0).state = .emitting ∧ (s.slot 0).tag = some 0 ∧ (s.reel 0).isActive = true) ∧
    (let s := put 1 .kept (some 0) 64 (.ready 0)
       (put 2 .closed (some 0) 64 .none (listed [.frame 0, .frame 2] (sending (.active .locked))))
     (s.slot 1).state = .kept ∧ (s.slot 1).link = .ready 0 ∧ (s.slot 2).state = .closed ∧
       linkSettled (s.slot 2).link = true ∧
       (s.store.list.filter fun x => decide (x ≠ .frame 0)) = [.frame 2] ∧
       ∀ j, j ≠ 0 → (s.slot j).state ≠ .emitting) ∧
    (let s := put 2 .closed (some 0) 64 .none (sending .draining)
     (s.reel 0).state = .draining ∧ 1 < storeCount s 0) ∧
    ((put 0 .emitting none 64 .none (sending (.active .locked))).slot 0).tag = none := by decide +kernel

theorem witness_last_emission :
    (let s := sending .draining
     s.npor = true ∧ s.store.emission.map (·.slot) = some 0 ∧ s.link.inFlight = some ⟨.frameClose, false⟩ ∧
       (s.slot 0).state = .emitting ∧ (s.slot 0).tag = some 0 ∧ (s.reel 0).state = .draining ∧ storeCount s 0 = 1 ∧
       noticeFree s = true ∧ s.reels.waiting = []) ∧
    State.reset.link.inFlight = none := by decide +kernel

/-- A FRAME_CLOSE being sent, during a pause, in the cell of the last copy of a notice, with record 1 waiting if `w`. -/
def sendingBoth (st : ReelState) (w : Bool) : State :=
  let s := updReel 1 (fun _ => rec1 (if w then .disposing else .free)) (sending st)
  { s with
    link := { s.link with pause := true, inFlight := some ⟨.frameClose, true⟩ }
    reels := { s.reels with waiting := if w then [1] else [] }
    svc := { s.svc with queue := [⟨true, [1, 2]⟩, ⟨false, [3]⟩], copies := 4 } }

theorem witness_emission_end_with_a_last_copy :
    (let s := sendingBoth (.active .locked) true
     s.npor = true ∧ s.link.pause = true ∧ s.store.emission.map (·.slot) = some 0 ∧
       s.link.inFlight = some ⟨.frameClose, true⟩ ∧ (s.slot 0).state = .emitting ∧ (s.reel 0).isActive = true ∧
       0 ∉ s.reels.waiting ∧ s.reels.waiting = [1] ∧ (∀ x ∈ s.svc.queue.tail, x.notice = false) ∧
       ((after .emissionEnd s).reel 1).state = .free) ∧
    (sendingBoth (.active .locked) false).reels.waiting = [] ∧
    (let s := sendingBoth .draining false
     (s.reel 0).state = .draining ∧ storeCount s 0 = 1 ∧ (∀ x ∈ s.svc.queue.tail, x.notice = false) ∧
       ((after .emissionEnd s).reel 0).state = .free) := by decide +kernel

/-- A DRAINING record with an empty store, the notice position free and taken; a waiting record. -/
theorem witness_disposing :
    (let s := reels .draining .free
     s.npor = true ∧ (s.reel 0).state = .draining ∧ storeCount s 0 = 0 ∧ (∀ q, q ≠ 0 → (s.reel q).state ≠ .draining) ∧
       noticeFree s = true ∧ s.reels.waiting = []) ∧
    noticeFree (queued 0 false) = false ∧ (waiting.reels.waiting = [0] ∧ noticeFree waiting = true) ∧
    held waiting = true ∧ held (queued 0 false) = true := by decide +kernel

/-- A notice and a record's words, worked from 11.3 by hand: PLACED in bay 9 with id 200, class C, HOLD, lane 5. -/
theorem test_record_words :
    noticeWords 5 { rec1 .disposing with
      placementId := 200, bay := 9, outcome := .placed, finalClass := .classC, hold := true } =
      [0xC6C00300, 7, 0xC8095103, 1] ∧
    (reelWords { rec1 (.active .locked) with
      acqOutcome := .locked, gradeSel := .programmed, closeMissing := true, peakShrinkage := some (-3) }).take 9 =
      [0x12100009, 7, 0x4000040C, 0x00400100, 0, 0, 0x80000000, 0xFFFFFFFD, 0] ∧
    (reelWords freeRecord).head? = some 0x0F000000 := by decide +kernel

/-- A record at the ends of its fields. -/
theorem witness_record_fits :
    ReelRecord.fitsItsFields { rec1 .draining with
      placementId := 255, bay := 63, reelPitch := 2 ^ 32 - 1, maxGain := 65535, reelShrinkage := some (-2147483647) } := by
  unfold ReelRecord.fitsItsFields
  refine ⟨by decide, by decide, by decide, by decide, by decide, by decide, by decide, by decide, by decide, ?_, ?_, ?_⟩
  · intro v h
    cases h
    decide
  · intro v h
    cases h
  · decide

theorem witness_close_events :
    (let s := closing 24 96 4 []
     s.npor = true ∧ held s = true ∧ s.link.rx = .filling 0 ∧ (s.slot 0).tag = some 0 ∧
       (s.slot 0).lineCount = (s.reel 0).header.lines ∧ (s.reel 0).isActive = true ∧ collecting (s.reel 0) = true ∧
       (s.slot 0).latch.reg.acqTimeout ≤ s.reg.sinceOpen ∧ (s.slot 0).latch.reg.acqMin ≤ s.reg.count ∧
       4 ≤ s.xport.mismatch) ∧
    (closing 23 95 3 []).reg.count < ((closing 23 95 3 []).slot 0).latch.reg.acqMin ∧
    (closing 23 95 3 []).reg.sinceOpen < ((closing 23 95 3 []).slot 0).latch.reg.acqTimeout ∧
    (closing 23 95 3 []).xport.mismatch < 4 ∧ collecting ((openFrame 64).reel 0) = false ∧
    (openFrame 63).link.rx = .filling 0 ∧ ((openFrame 63).slot 0).lineCount ≠ ((openFrame 63).reel 0).header.lines ∧
    State.reset.link.rx = .between := by decide +kernel

/-- Three replies queued leave no position; a SET_MASK of two words has a wrong length. -/
theorem witness_refused_messages :
    (let s := { State.reset with svc := { State.reset.svc with queue := [⟨false, [1]⟩, ⟨false, [2]⟩, ⟨false, [3]⟩] } }
     replyFree s = false) ∧
    replyFree State.reset = true ∧ lengthOk .setMask [(1 : Word), 2].length = false ∧
    ¬(Verb.setMask = .reset ∧ [(1 : Word), 2] = []) ∧
    (13 < (0x0E : Byte).toNat ∧ (0 : Byte).toNat = 0 ∧ startWord (0x0E : Byte).toNat 0 (7 : Byte).toNat = 0xC60E0007 ∧
      (ported (.haveFirst 0xC60E0007) .waiting).svc.pair = .haveFirst 0xC60E0007 ∧
      (after (.serviceCell false true 0xC60E0007) (ported (.haveFirst 0xC60E0007) .waiting)).svc.queue =
        [⟨false, [0xC68E0107, 1]⟩] ∧
      (ported (.haveFirst 5) (.collecting [startWord (0xFF : Byte).toNat 62 (7 : Byte).toNat] 1 0)).svc.framing =
        .collecting [startWord (0xFF : Byte).toNat 62 (7 : Byte).toNat] 1 0) := by decide +kernel

/-- A right message of any verb: power-on has a reply position free and LOAD_HOLD settled. Table reads at the end of table 7
and one word beyond it. -/
theorem witness_verbs :
    State.reset.npor = true ∧ held State.reset = true ∧ replyFree State.reset = true ∧ 2 < (3 : Word).toNat ∧
    (31 + 1 ≤ tableLength 7 ∧ tableLength 7 < 31 + 2 ∧ 223 - 61 + 61 ≤ tableLength 4) := by decide +kernel

theorem witness_select_grade :
    anyOccupied closedFrame = true ∧ held closedFrame = true ∧ anyOccupied State.reset = false ∧
    activeRec closedFrame = some 0 ∧ activeRec State.reset = none ∧
    ({ State.reset with svc := { State.reset.svc with mask := 0x040 } } : State).svc.mask.getLsbD 6 = true := by
  decide +kernel

/-- The last word of table 6 and one word beyond it; table 4 locked by an occupied record. -/
theorem witness_write_table :
    (127 + 1 ≤ tableLength 6 ∧ tableLength 6 < 127 + 2 ∧ 163 + 60 ≤ tableLength 4) ∧
    (let s := { closedFrame with grade := { closedFrame.grade with sel := .programmed } }
     s.grade.sel = .programmed ∧ anyOccupied s = true ∧ replyFree s = true ∧ held s = true) := by decide +kernel

/-- One placement of id 3, refused once and twice; an id that none holds. -/
theorem witness_placements :
    (placed 1).shelf.placements = [] ++ ⟨3, 77, 0, .classA, .acetate, false, 1⟩ :: [] ∧ held (placed 1) = true ∧
    replyFree (placed 1) = true ∧ (∀ p ∈ (placed 1).shelf.placements, p.id ≠ (4 : Word).toNat) ∧
    ((placed 1).shelf.placements.map (·.attempts) = [1] ∧ (placed 2).shelf.placements.map (·.attempts) = [2]) ∧
    chooseBay (holdBay (placed 1).shelf 0) .acetate .classA false = none := by decide +kernel

/-- Bay 2 open to acetate of class A, so that a refused entry is re-planned there. -/
theorem witness_replan :
    (let s := { (placed 1).shelf with
       bays := (placed 1).shelf.bays.set 2 ⟨true, false, false, true, true, true, 31, 5, 0⟩ }
     chooseBay (holdBay s 0) .acetate .classA false = some 2) := by decide +kernel

/-- `n` placements of ids 1 to `n`, each refused once before. -/
def refusedOnce (n : Nat) : State :=
  { State.reset with shelf := { State.reset.shelf with
      placements := (List.range n).map fun i => ⟨i + 1, BitVec.ofNat 32 i, 0, .classA, .acetate, false, 2⟩ } }

/-- A removal that leaves 12 entries sets the load-hold flag, and one that leaves 4 clears it. -/
theorem witness_removal_counts :
    (after (.placeRefuse 9 [1]) (refusedOnce 13)).xport.hyst = true ∧
    (let s := refusedOnce 5
     (after (.placeRefuse 9 [1]) { s with xport := { s.xport with hyst := true, loadHold := true } }).xport.hyst = false) ∧
    (∀ q ∈ (refusedOnce 13).shelf.placements.tail, q.id ≠ (1 : Word).toNat) := by decide +kernel

/-- A policy entry of each action, one that fires and one that does not. -/
theorem witness_policy :
    (⟨1, .atLeast, false, false, .worsen, 3, 0⟩ : PolicyEntry).action = .worsen ∧
    (⟨1, .atLeast, false, false, .hold, 0, 0⟩ : PolicyEntry).action = .hold ∧
    (⟨1, .atLeast, false, false, .rescan, 0, 0⟩ : PolicyEntry).action = .rescan ∧
    endEntry.action = .none ∧ false ≠ !(⟨1, .atLeast, false, false, .worsen, 3, 0⟩ : PolicyEntry).whenFalse := by decide

/-- The five ends of a disposition are all reached: a rescan, a duplicate, a full list, no bay, and a bay. -/
theorem witness_disposition :
    (policyOf { State.reset.shelf with policy := State.reset.shelf.policy.set 0 ⟨1, .atLeast, false, true, .rescan, 0, 9⟩ }
      (rec1 .draining)).rescan = true ∧
    (policyOf State.reset.shelf (rec1 .draining)).rescan = false ∧
    (∃ q ∈ [(⟨3, 7, 0, .classA, .acetate, false, 1⟩ : Placement)], q.reelId = (rec1 .draining).header.reelId) ∧
    16 ≤ (List.replicate 16 (⟨3, 8, 0, .classA, .acetate, false, 1⟩ : Placement)).length ∧
    chooseBay State.reset.shelf .acetate .classA false = none ∧
    chooseBay { State.reset.shelf with bays := State.reset.shelf.bays.set 2 ⟨true, false, false, true, true, true, 31, 5, 0⟩ }
      .acetate .classA false = some 2 := by decide +kernel

/-- Next ids 1 and 255, with id 255 held. -/
theorem witness_placement_ids :
    State.reset.shelf.placements.length ≤ 16 ∧ 1 ≤ State.reset.shelf.nextId ∧ State.reset.shelf.nextId ≤ 255 ∧
    takeId { State.reset.shelf with placements := [⟨255, 8, 0, .classA, .acetate, false, 1⟩], nextId := 255 } = 1 := by
  decide +kernel

theorem witness_frame_numbers :
    0 < 12480 ∧ frameHeld defaultRegTable ([] : List Hole).length 4 = true ∧ 0 < 33 ∧ 33 ≤ 33 ∧
    (none : Option (Fin 4 × Slot)) = none := by decide

/-- LOAD_HOLD on with the flag on at 12 placements, and off at 4. -/
def heldAt (n : Nat) (f : Bool) : State :=
  { State.reset with
    xport := { State.reset.xport with hyst := f, loadHold := f }
    shelf := { State.reset.shelf with placements := List.replicate n ⟨3, 8, 0, .classA, .acetate, false, 1⟩ } }

theorem witness_load_hold :
    (heldAt 12 true).loadHoldSettled ∧ (heldAt 12 true).hystFollowsCount ∧ (heldAt 4 false).loadHoldSettled ∧
    (heldAt 4 false).hystFollowsCount := by
  unfold State.loadHoldSettled State.hystFollowsCount
  decide +kernel

/-- Every counter at its end, the class at the ceiling. -/
theorem witness_counters_in_range :
    (let s := { State.reset with
       link := { State.reset.link with errors := 65535 }
       reels := { State.reset.reels with refused := 65535 }
       svc := { State.reset.svc with stray := 65535, faultCount := 255 } }
     s.countersInRange ∧ s.withinCeiling) := by
  unfold State.countersInRange State.withinCeiling
  decide +kernel

/-- Three replies and a notice queued; a message of 63 words with one due and a count of 4095. -/
theorem witness_queue_and_framing :
    ({ State.reset with svc := { State.reset.svc with
        queue := [⟨false, [1]⟩, ⟨true, [2]⟩, ⟨false, [3]⟩, ⟨false, [4]⟩] } } : State).queueInRange ∧
    (ported .expectFirst (.collecting (List.replicate 62 0) 1 4095)).framingInRange := by
  unfold State.queueInRange
  refine ⟨by decide +kernel, ?_⟩
  show 1 ≤ (List.replicate 62 (0 : Word)).length ∧ 1 ≤ 1 ∧ (List.replicate 62 (0 : Word)).length + 1 ≤ 63 ∧ 4095 < 4096
  decide

/-- Sixteen control entries, and a region in a slot. -/
theorem witness_lists_in_range : (listed (List.replicate 16 .splice) closedFrame).listsInRange := by
  unfold State.listsInRange
  decide +kernel

/-- A record waits while the notice position is taken. -/
theorem witness_waiting_served : (queued 0 true).waitingServed := by
  unfold State.waitingServed
  decide +kernel

/-- A treated frame open in slot 0 and counted as opened. -/
theorem witness_frames_accounted : (openFrame 3).framesAccounted ∧ (openFrame 3).waitingServed := by
  unfold State.framesAccounted State.slotsNamed State.controlAtHead State.listNamesFrames State.oneActive
    State.fillingIsActive State.framesConserved State.waitingServed
  refine ⟨⟨by decide +kernel, ?_, by decide +kernel, by decide +kernel, by decide +kernel, by decide +kernel⟩,
    by decide +kernel⟩
  intro f hf
  have h : (openFrame 3).link.inFlight = none := rfl
  simp [h] at hf

/-- Two placements of different ids and reels, the ids at both ends of their range. -/
theorem witness_placements_apart :
    ({ State.reset with shelf := { State.reset.shelf with
        placements := [⟨255, 8, 0, .classA, .acetate, false, 1⟩, ⟨1, 9, 0, .classA, .acetate, false, 1⟩] } } :
      State).placementsApart := by
  unfold State.placementsApart
  decide +kernel

/-- Two tracks whose spans meet without overlapping. -/
theorem witness_tracks_apart : (closing 0 1 0 [⟨5, 9, 3, 4, 5, .confirmed, false⟩, ⟨10, 12, 3, 4, 4, .candidate, true⟩]).tracksApart := by
  unfold State.tracksApart tracksOverlap
  decide +kernel

/-- The tables of power-on under a programmed set of zeros, and its checksum. -/
theorem witness_tables_in_range : closedFrame.tablesInRange ∧ closedFrame.checksumCurrent := by
  have key : ∀ (vs : List Nat) (rs : List (Nat × Nat)),
      ((vs.zip rs).all fun p => decide (p.2.1 ≤ p.1) && decide (p.1 ≤ p.2.2)) = true → inRanges vs rs := by
    intro vs rs h i v r hv hr
    have hm : (v, r) ∈ vs.zip rs := by
      refine List.mem_of_getElem? (i := i) ?_
      simp [List.getElem?_zip_eq_some, hv, hr]
    simpa using List.all_eq_true.mp h _ hm
  refine ⟨⟨key _ _ (by decide +kernel), key _ _ (by decide +kernel), key _ _ (by decide +kernel), ?_⟩, ?_⟩
  · unfold PolicyEntry.inRange Bay.inRange
    decide +kernel
  · have h : closedFrame.grade = (powerOnState 0).grade := rfl
    unfold State.checksumCurrent
    rw [h]
    simp only [powerOnState]

end Sys2Proof.Tests
end

