-- ==== Sys2Proof/Proofs/LoadHold.lean ====
section
/-! PROOFS. Load hold (R95, R96): LOAD_HOLD follows the hysteresis flag and the records, and the flag follows the placement
count, over every step. An event that can move a record, the flag or the count ends with `settle`, and every change of the
count is handed on by `handCount`; all other work leaves what the two invariants read. -/
namespace Sys2Proof.Machine

/-! ## The bits of the condition word -/

/-- Bit `i` of a list of bits read as a number is the list's element `i`. -/
theorem testBit_bitsNat (bs : List Bool) (i : Nat) : (bitsNat bs).testBit i = bs.getD i false := by
  induction bs generalizing i with
  | nil => simp [bitsNat]
  | cons b bs ih =>
    have hb : bitsNat (b :: bs) = Nat.bit b (bitsNat bs) := by
      cases b <;> simp [bitsNat, flag, Nat.bit, Nat.add_comm]
    cases i with
    | zero => rw [hb, Nat.testBit_bit_zero]; rfl
    | succ i => rw [hb, Nat.testBit_bit_succ, ih]; rfl

/-- A bit of the condition word is the condition bit of its number (R192). -/
theorem conditionWord_getLsbD (s : State) {i : Nat} (h : i < 11) :
    (conditionWord s).getLsbD i = (conditionBits s).getD i false := by
  rw [conditionWord, BitVec.getLsbD_ofNat, testBit_bitsNat, decide_eq_true h, Bool.true_and]

/-! ## Transport control's decisions leave the hysteresis flag -/

@[simp] theorem countHeld_hyst (x : Transport) : (countHeld x).hyst = x.hyst := by
  unfold countHeld; dsimp only; split <;> rfl

@[simp] theorem countGood_hyst (x : Transport) : (countGood x).hyst = x.hyst := by
  unfold countGood; dsimp only; split <;> rfl

@[simp] theorem speedClose_hyst (tear acquiring held : Bool) (conf upConf : Nat) (x : Transport) :
    (speedClose tear acquiring held conf upConf x).hyst = x.hyst := by
  unfold speedClose
  split
  · rfl
  split
  · rfl
  split
  · exact countHeld_hyst x
  split
  · exact countGood_hyst x
  · rfl

@[simp] theorem exposureClose_hyst (reported highPm : Nat) (h : Rgb (Vector Nat 64)) (x : Transport) :
    (exposureClose reported highPm h x).hyst = x.hyst := by
  unfold exposureClose; split <;> rfl

@[simp] theorem adoptStep_hyst (reported : Nat) (x : Transport) : (adoptStep reported x).hyst = x.hyst := by
  unfold adoptStep; split <;> rfl

@[simp] theorem transportClose_hyst (k : Fin 4) (r : Fin 2) (s : State) :
    (transportClose k r s).xport.hyst = s.xport.hyst := by
  simp [transportClose, adoptionStep]

@[simp] theorem closeTreated_hyst (k : Fin 4) (r : Fin 2) (s : State) :
    (closeTreated k r s).xport.hyst = s.xport.hyst := by
  simp [closeTreated]

/-! ## The hysteresis flag and the placement count -/

/-- Work that leaves the flag and the placement list leaves the flag in step with the count. -/
theorem State.hystFollowsCount.of_eq {s t : State} (h : s.hystFollowsCount) (hf : t.xport.hyst = s.xport.hyst)
    (hp : t.shelf.placements = s.shelf.placements) : t.hystFollowsCount := by
  unfold State.hystFollowsCount
  rw [hf, hp]
  exact h

/-- A flag moved by the placement count is in step with it, whatever the flag was (R95). -/
theorem hystFollowsCount_of_hystAfter {s : State} {f : Bool}
    (h : s.xport.hyst = hystAfter s.shelf.placements.length f) : s.hystFollowsCount := by
  have hlt : Config.holdOff < Config.holdOn := by decide
  unfold State.hystFollowsCount
  rw [h]
  refine ⟨fun hon => if_pos hon, fun hoff => ?_⟩
  exact (if_neg (Nat.not_le.mpr (Nat.lt_of_le_of_lt hoff hlt))).trans (if_pos hoff)

/-- The count handed on puts the flag in step with it (R95, R172). -/
theorem handCount_hystFollowsCount (s : State) : (handCount s).hystFollowsCount := hystFollowsCount_of_hystAfter rfl

section
variable {s : State} (h : s.hystFollowsCount)
include h

theorem takeNotice_keepsHyst : (takeNotice s).hystFollowsCount := h.of_eq (by simp) (by simp)

/-- A disposition appends a placement only where it hands the count on (R169, R172). -/
theorem disposeReel_keepsHyst (r : Fin 2) : (disposeReel r s).hystFollowsCount := by
  unfold disposeReel
  dsimp only
  split
  · exact takeNotice_keepsHyst (hystFollowsCount_of_hystAfter rfl)
  · rename_i hne
    refine takeNotice_keepsHyst ?_
    obtain ⟨hsame, -⟩ | ⟨b, -, -, -, -, hplaced⟩ := dispose_cases s.shelf (s.reel r)
    · exact h.of_eq rfl (congrArg Shelving.placements hsame)
    · exact absurd hplaced hne

theorem judgeStore_keepsHyst (r : Fin 2) : (judgeStore r s).hystFollowsCount := by
  obtain ⟨-, -, e⟩ | ⟨-, e⟩ := judgeStore_cases r s <;> rw [e]
  · exact disposeReel_keepsHyst h r
  · exact h

theorem checkHead_keepsHyst : (checkHead s).hystFollowsCount := h.of_eq (by simp) (by simp)

theorem endEmission_keepsHyst (k : Fin 4) : (endEmission k s).hystFollowsCount := by
  unfold endEmission
  dsimp only
  refine checkHead_keepsHyst ?_
  split
  · exact judgeStore_keepsHyst (h.of_eq (by simp) (by simp)) _
  · exact h.of_eq (by simp) (by simp)

theorem linkFaultDiscard_keepsHyst (k : Fin 4) (r : Fin 2) : (linkFaultDiscard k r s).hystFollowsCount :=
  checkHead_keepsHyst (judgeStore_keepsHyst (h.of_eq (by simp) (by simp)) r)

theorem cutShort_keepsHyst : (cutShort s).hystFollowsCount := by
  unfold cutShort
  split
  · exact h
  · exact h
  · split
    · exact (linkFaultDiscard_keepsHyst h _ _).of_eq rfl rfl
    · exact h.of_eq (by simp) (by simp)

theorem closeReel_keepsHyst (r : Fin 2) (implicit : Bool) : (closeReel r implicit s).hystFollowsCount :=
  judgeStore_keepsHyst (h.of_eq (by simp) (by simp)) r

theorem openReel_keepsHyst (r : Fin 2) (header : ReelHeader) (keepFailed : Bool) :
    (openReel r header keepFailed s).hystFollowsCount := h.of_eq rfl rfl

theorem openOrRefuse_keepsHyst (header : ReelHeader) (ended keepFailed : Bool) :
    (openOrRefuse header ended keepFailed s).hystFollowsCount := by
  obtain ⟨r, -, e⟩ | ⟨-, e⟩ := openOrRefuse_cases header ended keepFailed s <;> rw [e]
  · exact openReel_keepsHyst h r header keepFailed
  · refine h.of_eq ?_ rfl
    cases ended <;> rfl

theorem takeReelOpen_keepsHyst (header : ReelHeader) : (takeReelOpen header s).hystFollowsCount := by
  unfold takeReelOpen
  split
  · exact openOrRefuse_keepsHyst (closeReel_keepsHyst h _ true) header true _
  · exact openOrRefuse_keepsHyst h header false false

theorem takeReelClose_keepsHyst : (takeReelClose s).hystFollowsCount := by
  unfold takeReelClose
  split
  · exact (closeReel_keepsHyst h _ false).of_eq rfl rfl
  · exact h

theorem takeSplice_keepsHyst : (takeSplice s).hystFollowsCount := h.of_eq (by simp) (by simp)

/-- A control cell keeps the flag in step where its units' own work does (R10). -/
theorem controlCell_keepsHyst (e : Entry) {work : State → State}
    (hw : ∀ {u : State}, u.hystFollowsCount → (work u).hystFollowsCount) :
    (controlCell e work s).hystFollowsCount := by
  have hlinks : (settleLinks (fun _ => .none) (cutShort s)).hystFollowsCount := (cutShort_keepsHyst h).of_eq rfl rfl
  exact checkHead_keepsHyst ((hw hlinks).of_eq (by simp) (by simp))

theorem takeFrameOpen_keepsHyst (frameNo : Word) (step : Nat) (cls : SpeedClass) :
    (takeFrameOpen frameNo step cls s).hystFollowsCount := h.of_eq (by simp) (by simp)

theorem takeLine_keepsHyst (px : List Pixel) : (takeLine px s).hystFollowsCount := by
  obtain ⟨-, e⟩ | ⟨k, r, -, -, -, -, e⟩ | ⟨k, r, -, -, -, e⟩ | ⟨k, -, -, -, e⟩ | ⟨k, -, -, -, e⟩ :=
    takeLine_cases px s <;> rw [e]
  · exact h
  · exact h.of_eq rfl rfl
  · exact (linkFaultDiscard_keepsHyst h k r).of_eq rfl rfl
  · exact h.of_eq rfl rfl
  · exact h.of_eq (by simp) (by simp)

theorem takeFrameClose_keepsHyst : (takeFrameClose s).hystFollowsCount := by
  obtain ⟨-, e⟩ | ⟨-, e⟩ | ⟨k, -, -, e⟩ | ⟨k, r, -, -, -, e⟩ | ⟨k, r, -, -, -, e⟩ :=
    takeFrameClose_cases s <;> rw [e]
  · exact h
  · exact h.of_eq rfl rfl
  · exact h.of_eq (by simp) (by simp)
  · exact h.of_eq (by simp) (by simp)
  · exact (linkFaultDiscard_keepsHyst h k r).of_eq rfl rfl

theorem sentPart_keepsHyst (p : SentPart) : (sentPart p s).hystFollowsCount := by
  cases p with
  | plain => exact h
  | control => exact checkHead_keepsHyst (h.of_eq rfl rfl)
  | frameClose =>
    unfold sentPart
    dsimp only
    split
    · exact endEmission_keepsHyst h _
    · exact h

/-- A confirmation removes a placement and hands the count on (R172, R174). -/
theorem actPlaceConfirm_keepsHyst (w : Word) : (actPlaceConfirm w s).2.hystFollowsCount := by
  unfold actPlaceConfirm
  split
  · exact h
  · exact handCount_hystFollowsCount _

end

/-- A refusal that finds a new bay keeps the number of placements (R176). -/
theorem refusePlacement_length {v : Shelving} {p : Placement} (h : (refusePlacement v p).2.1.isSome = true) :
    (refusePlacement v p).1.placements.length = v.placements.length := by
  unfold refusePlacement at h ⊢
  dsimp only at h ⊢
  split
  · rename_i hp
    simp [hp] at h
  · rename_i hp
    split
    · exact List.length_map _
    · rename_i hb
      simp [hp, hb] at h

/-- A refusal moves its placement within the list, or removes it and hands the count on (R172, R175, R176). -/
theorem actPlaceRefuse_keepsHyst {s : State} (h : s.hystFollowsCount) (w : Word) :
    (actPlaceRefuse w s).2.hystFollowsCount := by
  unfold actPlaceRefuse
  split
  · exact h
  · dsimp only
    split
    · rename_i hm
      unfold State.hystFollowsCount
      rw [refusePlacement_length hm]
      exact h
    · exact handCount_hystFollowsCount _

/-- A one-word action that keeps the flag in step keeps it whatever its body. -/
theorem onOneWord_keepsHyst {act : Word → State → List Word × State} {s : State} (h : s.hystFollowsCount)
    (ha : ∀ w, (act w s).2.hystFollowsCount) (body : List Word) : (onOneWord act body s).2.hystFollowsCount := by
  unfold onOneWord
  split
  · exact ha _
  · exact h

/-- WRITE_TABLE writes neither the flag nor the placement list (R189). -/
theorem onTableWrite_keepsHyst {s : State} (h : s.hystFollowsCount) (body : List Word) :
    (onTableWrite body s).2.hystFollowsCount := by
  unfold onTableWrite actWriteTable
  split
  · split
    · exact h
    · split
      · exact h
      · exact h.of_eq (by simp) (by simp)
  · exact h

theorem onTableRead_keepsHyst {s : State} (h : s.hystFollowsCount) (body : List Word) :
    (onTableRead body s).2.hystFollowsCount := by
  unfold onTableRead
  split
  · rw [actReadTable_state]; exact h
  · exact h

theorem actSelectGrade_keepsHyst {s : State} (h : s.hystFollowsCount) (w : Word) :
    (actSelectGrade w s).2.hystFollowsCount := by
  unfold actSelectGrade
  split
  · exact h
  · exact h.of_eq rfl rfl

theorem onTrim_keepsHyst {s : State} (h : s.hystFollowsCount) (body : List Word) :
    (onTrim body s).2.hystFollowsCount := by
  unfold onTrim
  split
  · exact h.of_eq rfl rfl
  · exact h

/-- Every verb's action keeps the flag in step with the count; only the two placement verbs move the count (R188). -/
theorem verbAction_keepsHyst {s : State} (h : s.hystFollowsCount) (v : Verb) (body : List Word) :
    (verbAction v body s).2.hystFollowsCount := by
  cases v with
  | identify => exact h
  | readStatus => exact h.of_eq rfl rfl
  | setMask => exact onOneWord_keepsHyst h (fun _ => h.of_eq rfl rfl) body
  | writeTable => exact onTableWrite_keepsHyst h body
  | readTable => exact onTableRead_keepsHyst h body
  | selectGrade => exact onOneWord_keepsHyst h (actSelectGrade_keepsHyst h) body
  | trim => exact onTrim_keepsHyst h body
  | setCeiling => exact onOneWord_keepsHyst h (fun _ => h.of_eq rfl rfl) body
  | readReel => exact onOneWord_keepsHyst h (fun w => by rw [actReadReel_state]; exact h) body
  | checksum => exact h
  | placeConfirm => exact onOneWord_keepsHyst h (actPlaceConfirm_keepsHyst h) body
  | placeRefuse => exact onOneWord_keepsHyst h (actPlaceRefuse_keepsHyst h) body
  | reset => exact h

/-! ## What a command keeps -/

/-- Whether both records are occupied is read from the records alone (R34). -/
theorem bothOccupied_of_eq {s t : State} (hr : t.reels.recs = s.reels.recs) : bothOccupied t = bothOccupied s := by
  unfold bothOccupied State.reel
  rw [hr]

/-- What a command from `s` to `t` keeps: LOAD_HOLD settled, and the flag in step with the placement count. -/
structure LoadHoldKept (s t : State) : Prop where
  settled : s.loadHoldSettled → t.loadHoldSettled
  hyst : s.hystFollowsCount → t.hystFollowsCount

namespace LoadHoldKept

theorem refl (s : State) : LoadHoldKept s s := ⟨id, id⟩

theorem trans {s t u : State} (h1 : LoadHoldKept s t) (h2 : LoadHoldKept t u) : LoadHoldKept s u :=
  ⟨h2.settled ∘ h1.settled, h2.hyst ∘ h1.hyst⟩

/-- Work that leaves transport control, the reel records and the placement list keeps load hold. -/
theorem of_eq {s t : State} (hx : t.xport = s.xport) (hr : t.reels.recs = s.reels.recs)
    (hp : t.shelf.placements = s.shelf.placements) : LoadHoldKept s t where
  settled h := by
    unfold State.loadHoldSettled
    rw [hx, bothOccupied_of_eq hr]
    exact h
  hyst h := h.of_eq (congrArg Transport.hyst hx) hp

/-- What a command keeps from a state it keeps from every state that agrees in what load hold reads. -/
theorem from_eq {s t u : State} (h : LoadHoldKept t u) (hx : t.xport = s.xport) (hr : t.reels.recs = s.reels.recs)
    (hp : t.shelf.placements = s.shelf.placements) : LoadHoldKept s u := (of_eq hx hr hp).trans h

/-- The end of an event settles LOAD_HOLD whatever the event did (R96), and leaves the flag and the count. -/
theorem of_settle {s after : State} (before : State) (h : s.hystFollowsCount → after.hystFollowsCount) :
    LoadHoldKept s (settle before after) where
  settled _ := by
    unfold State.loadHoldSettled
    rw [bothOccupied_of_eq (s := after) (by simp), settle_xport]
  hyst hs := (h hs).of_eq (by rw [settle_xport]) (by simp)

end LoadHoldKept

/-- Power-on has the flag and LOAD_HOLD off, no record occupied and no placement listed (R201). -/
theorem powerOn_loadHoldKept (s : State) {t : State} (lane : BitVec 4) (hx : t.xport = (powerOnState lane).xport)
    (hr : t.reels.recs = (powerOnState lane).reels.recs)
    (hp : t.shelf.placements = (powerOnState lane).shelf.placements) : LoadHoldKept s t where
  settled _ := by
    have hb : bothOccupied t = false := bothOccupied_of_eq (s := powerOnState lane) hr
    unfold State.loadHoldSettled
    rw [hx, hb]
    rfl
  hyst _ := by
    unfold State.hystFollowsCount
    rw [hx, hp]
    exact ⟨fun hon => absurd hon (Nat.not_succ_le_zero 11), fun _ => rfl⟩

/-- RESET frees both records and puts LOAD_HOLD where the flag stands; flag and placements survive (R97, R180). -/
theorem runReset_loadHoldKept (tag : Byte) (s : State) : LoadHoldKept s (runReset tag s) where
  settled _ := by
    have hfree : ∀ r, (runReset tag s).reel r = { s.reel r with state := .free } := by
      intro r
      simp [runReset, resetBlocks, State.reel, Vector.get_eq_getElem]
    have hb : bothOccupied (runReset tag s) = false := by
      simp [bothOccupied, recIdx, hfree, ReelRecord.occupied]
    unfold State.loadHoldSettled
    rw [hb, Bool.or_false]
    rfl
  hyst h := h.of_eq rfl rfl

/-- A complete message keeps load hold: its event settles, or moves nothing that load hold reads (R185, R191). -/
theorem runVerb_loadHoldKept (v : Verb) (tag : Byte) (body : List Word) (s : State) :
    LoadHoldKept s (runVerb v tag body s) := by
  have hframe : LoadHoldKept s (endFraming s) := .of_eq rfl rfl rfl
  refine hframe.trans ?_
  obtain ⟨-, -, e⟩ | ⟨-, -, e⟩ | ⟨-, -, -, e⟩ | ⟨-, -, -, e⟩ := runVerb_cases v tag body s <;> rw [e]
  · exact runReset_loadHoldKept tag _
  · exact .of_eq rfl rfl rfl
  · unfold settleVerb
    split
    · rename_i hv
      subst hv
      exact .of_eq rfl rfl rfl
    · exact .of_settle _ fun h => (verbAction_keepsHyst h v body).of_eq rfl rfl
  · exact .of_eq rfl rfl rfl

theorem runMessage_loadHoldKept (start : Word) (body : List Word) (s : State) :
    LoadHoldKept s (runMessage start body s) := by
  unfold runMessage
  split
  · exact runVerb_loadHoldKept _ _ _ s
  · unfold runUnknown
    dsimp only
    split <;> exact .of_eq rfl rfl rfl

theorem acceptWord_loadHoldKept (w : Word) (s : State) : LoadHoldKept s (acceptWord w s) := by
  unfold acceptWord
  split
  · split
    · split
      · exact runMessage_loadHoldKept _ _ s
      · exact .of_eq rfl rfl rfl
    · exact .of_eq rfl rfl rfl
  · split
    · exact runMessage_loadHoldKept _ _ s
    · exact .of_eq rfl rfl rfl

theorem timeoutStep_loadHoldKept (s : State) : LoadHoldKept s (timeoutStep s) := by
  unfold timeoutStep
  split
  · exact .refl s
  · split
    · exact .of_eq rfl rfl rfl
    · exact .refl s

theorem countCell_loadHoldKept (s : State) : LoadHoldKept s (countCell s) := by
  unfold countCell
  split
  · exact .refl s
  · exact (timeoutStep_loadHoldKept _).from_eq rfl rfl rfl

theorem takeSlot_loadHoldKept (slot : Option Word) (s : State) : LoadHoldKept s (takeSlot slot s) := by
  obtain ⟨w, -, -, e⟩ | ⟨-, -, e⟩ | ⟨f, -, -, e⟩ | ⟨f, w, -, -, -, e⟩ | ⟨f, -, -, e⟩ := takeSlot_cases slot s <;>
    rw [e]
  · exact (countCell_loadHoldKept _).from_eq rfl rfl rfl
  · exact countCell_loadHoldKept s
  · exact (acceptWord_loadHoldKept f _).from_eq rfl rfl rfl
  · exact .of_eq rfl rfl rfl
  · exact .of_eq rfl rfl rfl

theorem completeCell_loadHoldKept (s : State) : LoadHoldKept s (completeCell s) := by
  obtain ⟨-, e⟩ | ⟨f, -, e⟩ := completeCell_cases s <;> rw [e]
  · exact .refl s
  · refine .of_settle s fun h => sentPart_keepsHyst ?_ f.part
    split
    · exact h.of_eq (by simp) (by simp)
    · exact h.of_eq rfl rfl

/-- The next emitted part is taken from the link unit and the frame store alone (R17, R19). -/
theorem composeEmitted_frame (s : State) :
    (composeEmitted s).2.2.xport = s.xport ∧ (composeEmitted s).2.2.reels = s.reels ∧
    (composeEmitted s).2.2.shelf = s.shelf := by
  unfold composeEmitted nextEmitted
  (repeat' split) <;> exact ⟨rfl, rfl, rfl⟩

theorem composeCell_loadHoldKept (s : State) : LoadHoldKept s (composeCell s) := by
  obtain ⟨hx, hr, hp⟩ := composeEmitted_frame s
  refine .trans (.of_eq hx (congrArg ReelTable.recs hr) (congrArg Shelving.placements hp)) ?_
  unfold composeCell
  dsimp only
  obtain ⟨w, -, e⟩ | ⟨m, rest, w, -, -, -, e⟩ | ⟨-, e⟩ := composeSlot_cases (composeEmitted s).2.2 <;> rw [e] <;>
    exact .of_eq rfl rfl rfl

/-! ## Every command, every step -/

/-- A command keeps load hold if its effect under power does; without power it changes nothing (R201). -/
theorem whilePowered_loadHoldKept {f : State → State} {s t : State} (e : whilePowered f s = .next t)
    (h : LoadHoldKept s (f s)) : LoadHoldKept s t := by
  unfold whilePowered at e
  injection e with e
  subst e
  split
  · exact h
  · exact .refl s

/-- A command whose whole effect is one event that settles keeps load hold if the event's work keeps the flag in step. -/
theorem event_loadHoldKept (work : State → State) {s t : State} (h : s.hystFollowsCount → (work s).hystFollowsCount)
    (e : whilePowered (fun u => settle u (work u)) s = .next t) : LoadHoldKept s t :=
  whilePowered_loadHoldKept e (.of_settle s h)

theorem execEmissionEnd_loadHoldKept {s t : State} (e : execEmissionEnd s = .next t) : LoadHoldKept s t := by
  refine whilePowered_loadHoldKept e ?_
  split
  · exact completeCell_loadHoldKept s
  · exact .refl s

theorem execAcqTimeout_loadHoldKept {s t : State} (e : execAcqTimeout s = .next t) : LoadHoldKept s t := by
  refine whilePowered_loadHoldKept e ?_
  split
  · exact .of_settle s fun h => h.of_eq (by simp) (by simp)
  · exact .refl s

theorem execExposureAdoption_loadHoldKept {s t : State} (e : execExposureAdoption s = .next t) : LoadHoldKept s t := by
  refine whilePowered_loadHoldKept e ?_
  split
  · exact .of_settle s fun h => h.of_eq (adoptStep_hyst _ _) rfl
  · exact .refl s

theorem execTrackRetire_loadHoldKept {s t : State} (e : execTrackRetire s = .next t) : LoadHoldKept s t := by
  refine whilePowered_loadHoldKept e ?_
  split
  · exact .of_settle s fun h => h.of_eq (by simp) (by simp)
  · exact .refl s

theorem execDroppedCell_loadHoldKept {port : Port} {s t : State} (e : execDroppedCell port s = .next t) :
    LoadHoldKept s t := by
  refine whilePowered_loadHoldKept e ?_
  have hcredit : LoadHoldKept s (creditLinkError s) := .of_eq rfl rfl rfl
  cases port with
  | scan => exact hcredit
  | ingest => exact hcredit.trans (takeSlot_loadHoldKept none _)

theorem execServiceCell_loadHoldKept {pause valid : Bool} {word : Word} {s t : State}
    (e : execServiceCell pause valid word s = .next t) : LoadHoldKept s t :=
  whilePowered_loadHoldKept e
    ((takeSlot_loadHoldKept _ s).trans (.of_settle _ fun h => h.of_eq rfl rfl))

theorem execIngestOutgoingCell_loadHoldKept {sending : Sending} {s t : State}
    (e : execIngestOutgoingCell sending s = .next t) : LoadHoldKept s t := by
  refine whilePowered_loadHoldKept e ?_
  have hcomposed : LoadHoldKept s (composeCell (completeCell s)) :=
    (completeCell_loadHoldKept s).trans (composeCell_loadHoldKept _)
  cases sending with
  | underWay => exact hcomposed
  | whole => exact hcomposed.trans (completeCell_loadHoldKept _)

/-- Every command keeps LOAD_HOLD settled and the hysteresis flag in step with the placement count (R95, R96). -/
theorem exec_loadHoldKept (c : Instr) {s t : State} (e : exec c s = .next t) : LoadHoldKept s t := by
  cases c with
  | powerOn lane => injection e with e; subst e; exact powerOn_loadHoldKept s lane rfl rfl rfl
  | nporFall => injection e with e; subst e; exact powerOn_loadHoldKept s 0 rfl rfl rfl
  | idleCell => exact whilePowered_loadHoldKept (show execIdleCell s = _ from e) (.refl s)
  | directiveCell => exact whilePowered_loadHoldKept (show execDirectiveCell s = _ from e) (.of_eq rfl rfl rfl)
  | reelOpen header =>
    exact event_loadHoldKept (controlCell (.reelOpen (clampHeader header)) (takeReelOpen (clampHeader header)))
      (fun h => controlCell_keepsHyst h _ fun hu => takeReelOpen_keepsHyst hu _) e
  | splice =>
    exact event_loadHoldKept (controlCell .splice takeSplice) (fun h => controlCell_keepsHyst h _ takeSplice_keepsHyst) e
  | reelClose =>
    exact event_loadHoldKept (controlCell .reelClose takeReelClose)
      (fun h => controlCell_keepsHyst h _ takeReelClose_keepsHyst) e
  | frameOpen frameNo step cls =>
    exact event_loadHoldKept (fun u => checkHead (takeFrameOpen frameNo (clampStep step) cls (cutShort u)))
      (fun h => checkHead_keepsHyst (takeFrameOpen_keepsHyst (cutShort_keepsHyst h) frameNo (clampStep step) cls)) e
  | line px => exact event_loadHoldKept (takeLine px) (fun h => takeLine_keepsHyst h px) e
  | frameClose => exact event_loadHoldKept takeFrameClose takeFrameClose_keepsHyst e
  | emissionStart => exact event_loadHoldKept checkHead checkHead_keepsHyst e
  | enterDisposing =>
    exact event_loadHoldKept (fun u => judgeStore 1 (judgeStore 0 u))
      (fun h => judgeStore_keepsHyst (judgeStore_keepsHyst h 0) 1) e
  | dispositionNotice => exact event_loadHoldKept takeNotice takeNotice_keepsHyst e
  | emissionEnd => exact execEmissionEnd_loadHoldKept e
  | acqTimeout => exact execAcqTimeout_loadHoldKept e
  | exposureAdoption => exact execExposureAdoption_loadHoldKept e
  | trackRetire => exact execTrackRetire_loadHoldKept e
  | droppedCell port => exact execDroppedCell_loadHoldKept e
  | serviceCell pause valid word => exact execServiceCell_loadHoldKept e
  | ingestOutgoingCell sending => exact execIngestOutgoingCell_loadHoldKept e
  | timeout => exact whilePowered_loadHoldKept e (timeoutStep_loadHoldKept s)
  | identify tag body => exact whilePowered_loadHoldKept e (runVerb_loadHoldKept .identify tag body s)
  | readStatus tag body => exact whilePowered_loadHoldKept e (runVerb_loadHoldKept .readStatus tag body s)
  | setMask tag body => exact whilePowered_loadHoldKept e (runVerb_loadHoldKept .setMask tag body s)
  | writeTable tag body => exact whilePowered_loadHoldKept e (runVerb_loadHoldKept .writeTable tag body s)
  | readTable tag body => exact whilePowered_loadHoldKept e (runVerb_loadHoldKept .readTable tag body s)
  | selectGrade tag body => exact whilePowered_loadHoldKept e (runVerb_loadHoldKept .selectGrade tag body s)
  | trim tag body => exact whilePowered_loadHoldKept e (runVerb_loadHoldKept .trim tag body s)
  | setCeiling tag body => exact whilePowered_loadHoldKept e (runVerb_loadHoldKept .setCeiling tag body s)
  | readReel tag body => exact whilePowered_loadHoldKept e (runVerb_loadHoldKept .readReel tag body s)
  | checksum tag body => exact whilePowered_loadHoldKept e (runVerb_loadHoldKept .checksum tag body s)
  | placeConfirm tag body => exact whilePowered_loadHoldKept e (runVerb_loadHoldKept .placeConfirm tag body s)
  | placeRefuse tag body => exact whilePowered_loadHoldKept e (runVerb_loadHoldKept .placeRefuse tag body s)
  | reset tag body => exact whilePowered_loadHoldKept e (runVerb_loadHoldKept .reset tag body s)

/-- A step keeps load hold: an empty queue idles, and taking a command off the queue moves no block. -/
theorem step_loadHoldKept {s t : State} (e : step s = .next t) : LoadHoldKept s t := by
  unfold step at e
  split at e
  · injection e with e
    subst e
    exact .refl s
  · exact (exec_loadHoldKept _ e).from_eq rfl rfl rfl

/-- With both invariants LOAD_HOLD is on at 12 placements or with both records occupied, and off at 4 placements with a
record free (R95, R96). -/
theorem loadHold_of_count {s : State} (hs : s.loadHoldSettled) (hc : s.hystFollowsCount) :
    (12 ≤ s.shelf.placements.length ∨ bothOccupied s = true → s.xport.loadHold = true) ∧
    (s.shelf.placements.length ≤ 4 → bothOccupied s = false → s.xport.loadHold = false) := by
  obtain ⟨hon, hoff⟩ := hc
  unfold State.loadHoldSettled at hs
  rw [hs]
  refine ⟨?_, fun hle hb => ?_⟩
  · rintro (hge | hb)
    · rw [hon hge, Bool.true_or]
    · rw [hb, Bool.or_true]
  · rw [hoff hle, hb, Bool.or_false]

/-- Settles O54: every command either ends its event with `settle` or leaves what load hold reads. -/
theorem loadHoldFollowsFlagAndRecords : Obligations.LoadHoldFollowsFlagAndRecords := by
  unfold Obligations.LoadHoldFollowsFlagAndRecords
  exact ⟨fun s t hs e => (step_loadHoldKept e).settled hs, fun s t hc e => (step_loadHoldKept e).hyst hc,
    fun s hs hc => loadHold_of_count hs hc, fun s => conditionWord_getLsbD s (by decide)⟩

end Sys2Proof.Machine
end

