-- ==== Sys2Proof/Proofs/Shelving.lean ====
section
/-! PROOFS. The shelving unit's choices: the policy's actions (R163), the bay choice (R168) and the placement id (R171). -/
namespace Sys2Proof.Machine

/-! ## The policy's actions -/

theorem classCode_injective : Function.Injective classCode :=
  Function.LeftInverse.injective (g := CondClass.ofNat) fun c => by cases c <;> rfl

/-- The worse of two classes is the one of the larger code (R163, R199). -/
@[simp] theorem classCode_worse (a b : CondClass) : classCode (worse a b) = max (classCode a) (classCode b) := by
  unfold worse
  split
  · next h => exact (max_eq_right h.le).symm
  · next h => exact (max_eq_left (not_lt.mp h)).symm

theorem worse_right_comm (c a b : CondClass) : worse (worse c a) b = worse (worse c b) a :=
  classCode_injective (by simp only [classCode_worse, max_right_comm])

section
variable {e : PolicyEntry} (p : PolicyResult)

theorem fireAction_none (h : e.action = .none) : fireAction e p = p := by
  unfold fireAction; rw [h]

theorem fireAction_worsen (h : e.action = .worsen) :
    fireAction e p = { p with cls := worse p.cls (targetClass e.target) } := by
  unfold fireAction; rw [h]

theorem fireAction_hold (h : e.action = .hold) : fireAction e p = { p with hold := true } := by
  unfold fireAction; rw [h]

theorem fireAction_rescan (h : e.action = .rescan) : fireAction e p = { p with rescan := true } := by
  unfold fireAction; rw [h]

end

/-- Two firing actions write different results, or one result in a way that does not see their order (R163). -/
theorem fireAction_comm (e f : PolicyEntry) (p : PolicyResult) :
    fireAction e (fireAction f p) = fireAction f (fireAction e p) := by
  cases he : e.action <;> cases hf : f.action <;>
    simp only [fireAction_none, fireAction_worsen, fireAction_hold, fireAction_rescan, he, hf, worse_right_comm]

theorem judgeEntry_of_fires {e : PolicyEntry} {res : Bool} (h : res = !e.whenFalse) (p : PolicyResult) :
    judgeEntry e res p = fireAction e p := if_pos h

theorem judgeEntry_of_not_fires {e : PolicyEntry} {res : Bool} (h : res ≠ !e.whenFalse) (p : PolicyResult) :
    judgeEntry e res p = p := if_neg h

/-- The results `q` are no better than `p`: the class not nearer to A, no flag of `p` cleared (R163). -/
structure NoBetter (p q : PolicyResult) : Prop where
  cls : classCode p.cls ≤ classCode q.cls
  hold : p.hold = true → q.hold = true
  rescan : p.rescan = true → q.rescan = true

theorem NoBetter.refl (p : PolicyResult) : NoBetter p p := ⟨le_rfl, id, id⟩

theorem NoBetter.trans {p q r : PolicyResult} (h : NoBetter p q) (k : NoBetter q r) : NoBetter p r :=
  ⟨h.cls.trans k.cls, k.hold ∘ h.hold, k.rescan ∘ h.rescan⟩

theorem fireAction_noBetter (e : PolicyEntry) (p : PolicyResult) : NoBetter p (fireAction e p) := by
  cases h : e.action with
  | none => rw [fireAction_none p h]; exact .refl p
  | worsen =>
    rw [fireAction_worsen p h]
    exact ⟨(le_max_left _ _).trans_eq (classCode_worse _ _).symm, id, id⟩
  | hold => rw [fireAction_hold p h]; exact ⟨le_rfl, fun _ => rfl, id⟩
  | rescan => rw [fireAction_rescan p h]; exact ⟨le_rfl, id, fun _ => rfl⟩

theorem judgeEntry_noBetter (e : PolicyEntry) (res : Bool) (p : PolicyResult) : NoBetter p (judgeEntry e res p) := by
  by_cases h : res = !e.whenFalse
  · rw [judgeEntry_of_fires h]; exact fireAction_noBetter e p
  · rw [judgeEntry_of_not_fires h]; exact .refl p

theorem evalPolicy_noBetter (r : ReelRecord) (es : List PolicyEntry) (prev : Bool) (p : PolicyResult) :
    NoBetter p (evalPolicy r es prev p) := by
  induction es generalizing prev p with
  | nil => exact .refl p
  | cons e es ih =>
    unfold evalPolicy
    split
    · exact .refl p
    · exact (judgeEntry_noBetter e _ p).trans (ih _ _)

/-- Settles O44: an action only takes the worse class or sets a flag, and an evaluation is a chain of actions. -/
theorem policyOnlyWorsens : Obligations.PolicyOnlyWorsens := by
  unfold Obligations.PolicyOnlyWorsens
  refine ⟨fun _ _ => rfl, fun r es prev p => ?_, fun e p => ?_, fun e p res h => judgeEntry_of_not_fires h p,
    fireAction_comm⟩
  · obtain ⟨hcls, hhold, hrescan⟩ := evalPolicy_noBetter r es prev p
    exact ⟨hcls, hhold, hrescan⟩
  · refine ⟨fireAction_none p, fun h => ?_, fireAction_hold p, fireAction_rescan p⟩
    rw [fireAction_worsen p h]
    exact ⟨classCode_worse _ _, rfl, rfl⟩

/-! ## The bay choice -/

/-- Bay `b` has at least the room of bay `a`, and is not the higher-numbered of two with equal room (R168). -/
def AtLeastTheRoom (s : Shelving) (b a : Fin 64) : Prop :=
  freeCount s a < freeCount s b ∨ (freeCount s a = freeCount s b ∧ b ≤ a)

section
variable {s : Shelving} {a b c : Fin 64}

theorem AtLeastTheRoom.refl (s : Shelving) (b : Fin 64) : AtLeastTheRoom s b b := .inr ⟨rfl, le_rfl⟩

theorem AtLeastTheRoom.trans (h : AtLeastTheRoom s c b) (k : AtLeastTheRoom s b a) : AtLeastTheRoom s c a := by
  unfold AtLeastTheRoom at *
  omega

/-- No two bays each have at least the other's room: the numbers break every tie. -/
theorem AtLeastTheRoom.antisymm (h : AtLeastTheRoom s b a) (k : AtLeastTheRoom s a b) : b = a := by
  unfold AtLeastTheRoom at *
  omega

/-- Of the bay chosen so far and a higher-numbered one, `betterBay` keeps one that has at least the room of both. -/
theorem betterBay_of_lt (s : Shelving) (h : a < b) :
    (betterBay s (some a) b = some b ∧ AtLeastTheRoom s b a) ∨
    (betterBay s (some a) b = some a ∧ AtLeastTheRoom s a b) := by
  by_cases hroom : freeCount s a < freeCount s b
  · exact .inl ⟨if_pos hroom, .inl hroom⟩
  · refine .inr ⟨if_neg hroom, ?_⟩
    unfold AtLeastTheRoom
    omega

end

/-- The fold over bays in ascending order, begun with the first, ends at one of them that has at least the room of each. -/
theorem foldl_betterBay (s : Shelving) (a : Fin 64) (l : List (Fin 64)) (h : (a :: l).Pairwise (· < ·)) :
    ∃ b ∈ a :: l, l.foldl (betterBay s) (some a) = some b ∧ ∀ c ∈ a :: l, AtLeastTheRoom s b c := by
  induction l generalizing a with
  | nil => exact ⟨a, by simp, rfl, by simpa using AtLeastTheRoom.refl s a⟩
  | cons c l ih =>
    obtain ⟨⟨hac, hal⟩, hl⟩ : (a < c ∧ ∀ x ∈ l, a < x) ∧ (c :: l).Pairwise (· < ·) := by
      simpa only [List.pairwise_cons, List.forall_mem_cons] using h
    rw [List.foldl_cons]
    obtain ⟨e, hbest⟩ | ⟨e, hbest⟩ := betterBay_of_lt s hac <;> rw [e]
    · obtain ⟨b, hb, efold, hroom⟩ := ih c hl
      refine ⟨b, List.mem_cons_of_mem a hb, efold, List.forall_mem_cons.mpr ⟨?_, hroom⟩⟩
      exact (hroom c List.mem_cons_self).trans hbest
    · obtain ⟨b, hb, efold, hroom⟩ := ih a (List.pairwise_cons.mpr ⟨hal, (List.pairwise_cons.mp hl).2⟩)
      obtain ⟨hba, hbl⟩ := List.forall_mem_cons.mp hroom
      refine ⟨b, ?_, efold, ?_⟩
      · exact (List.sublist_cons_self c l).cons_cons a |>.mem hb
      · exact List.forall_mem_cons.mpr ⟨hba, List.forall_mem_cons.mpr ⟨hba.trans hbest, hbl⟩⟩

/-- The bay choice finds no bay where none is eligible, and else an eligible bay with at least the room of each (R168). -/
theorem chooseBay_cases (s : Shelving) (base : BaseType) (c : CondClass) (hold : Bool) :
    (chooseBay s base c hold = none ∧ ∀ a, eligible s base c hold a = false) ∨
    ∃ b, chooseBay s base c hold = some b ∧ eligible s base c hold b = true ∧
      ∀ a, eligible s base c hold a = true → AtLeastTheRoom s b a := by
  have hmem : ∀ a, a ∈ (List.finRange 64).filter (eligible s base c hold) ↔ eligible s base c hold a = true := by
    simp [List.mem_filter]
  have hsorted := (List.pairwise_lt_finRange 64).filter (eligible s base c hold)
  unfold chooseBay
  generalize (List.finRange 64).filter (eligible s base c hold) = bays at hmem hsorted ⊢
  cases bays with
  | nil => exact .inl ⟨rfl, fun a => Bool.eq_false_iff.mpr fun h => List.not_mem_nil ((hmem a).mpr h)⟩
  | cons first rest =>
    obtain ⟨b, hb, efold, hroom⟩ := foldl_betterBay s first rest hsorted
    exact .inr ⟨b, efold, (hmem b).mp hb, fun a ha => hroom a ((hmem a).mpr ha)⟩

/-- Settles O45: the bay chosen is one of the best bays, and there is no second best bay. -/
theorem bayChoiceTakesTheMostRoom : Obligations.BayChoiceTakesTheMostRoom := by
  unfold Obligations.BayChoiceTakesTheMostRoom
  intro s base c hold
  obtain ⟨enone, hnone⟩ | ⟨b, esome, hb, hbest⟩ := chooseBay_cases s base c hold
  · simp [enone, hnone]
  · refine ⟨fun d => ⟨fun h => ?_, fun ⟨hd, hdbest⟩ => ?_⟩, fun h => ?_, fun h => ?_⟩
    · obtain rfl : b = d := Option.some.inj (esome.symm.trans h)
      exact ⟨hb, hbest⟩
    · rw [esome, (hbest d hd).antisymm (hdbest b hb)]
    · exact absurd (esome.symm.trans h) (Option.some_ne_none b)
    · exact absurd (hb.symm.trans (h b)) (by decide)

/-! ## Placement ids -/

/-- The ids 1 to 255 counted in a circle: the one `n` after id 1 (R171). -/
def circleId (n : Nat) : Nat := n % 255 + 1

theorem nextIdAfter_circleId (n : Nat) : nextIdAfter (circleId n) = circleId (n + 1) := by
  unfold nextIdAfter circleId
  split <;> omega

theorem circleId_pred {i : Nat} (h1 : 1 ≤ i) (h2 : i ≤ 255) : circleId (i - 1) = i := by
  unfold circleId
  omega

/-- A search passes over held ids alone, and stops early only at a free one. -/
theorem searchId_circleId (ps : List Placement) (fuel k : Nat) :
    ∃ n ≤ fuel, searchId ps fuel (circleId k) = circleId (k + n) ∧
      (∀ m < n, ∃ p ∈ ps, p.id = circleId (k + m)) ∧ (n < fuel → ∀ p ∈ ps, p.id ≠ circleId (k + n)) := by
  induction fuel generalizing k with
  | zero => exact ⟨0, le_rfl, rfl, fun m hm => absurd hm (Nat.not_lt_zero m), fun h => absurd h (Nat.lt_irrefl 0)⟩
  | succ fuel ih =>
    unfold searchId
    split
    · next hheld =>
      obtain ⟨n, hn, efound, hpassed, hfree⟩ := ih (k + 1)
      rw [nextIdAfter_circleId]
      simp only [Nat.add_assoc, Nat.add_comm 1] at efound hpassed hfree
      refine ⟨n + 1, Nat.succ_le_succ hn, efound, fun m hm => ?_, fun h => hfree (Nat.lt_of_succ_lt_succ h)⟩
      cases m with
      | zero => simpa using hheld
      | succ m => exact hpassed m (Nat.lt_of_succ_lt_succ hm)
    · next hfree => exact ⟨0, Nat.zero_le _, rfl, fun m hm => absurd hm (Nat.not_lt_zero m), by simpa using hfree⟩

/-- A list that holds `n` ids in a row has at least `n` entries, for 255 ids never meet on the circle. -/
theorem le_length_of_holds_circleId {ps : List Placement} {k n : Nat} (hn : n ≤ 255)
    (h : ∀ m < n, ∃ p ∈ ps, p.id = circleId (k + m)) : n ≤ ps.length := by
  have hnodup : ((List.range n).map fun m => circleId (k + m)).Nodup := by
    refine List.Nodup.map_on (fun a ha b hb hab => ?_) List.nodup_range
    rw [List.mem_range] at ha hb
    unfold circleId at hab
    omega
  have hsub : ((List.range n).map fun m => circleId (k + m)) ⊆ ps.map (·.id) := by
    intro i hi
    obtain ⟨m, hm, rfl⟩ := List.mem_map.mp hi
    obtain ⟨p, hp, hid⟩ := h m (List.mem_range.mp hm)
    exact List.mem_map.mpr ⟨p, hp, hid⟩
  simpa using (hnodup.subperm hsub).length_le

/-- With at most 16 entries the 17 ids an append looks at are not all held, so it takes the first free one (R171). -/
theorem takeId_firstFree (s : Shelving) (hlen : s.placements.length ≤ 16) (h1 : 1 ≤ s.nextId) (h2 : s.nextId ≤ 255) :
    ∃ n ≤ 16, takeId s = circleId (s.nextId - 1 + n) ∧ (∀ p ∈ s.placements, p.id ≠ takeId s) ∧
      ∀ m < n, ∃ p ∈ s.placements, p.id = circleId (s.nextId - 1 + m) := by
  obtain ⟨n, hn, efound, hpassed, hfree⟩ := searchId_circleId s.placements 17 (s.nextId - 1)
  rw [circleId_pred h1 h2, ← takeId] at efound
  have hle : n ≤ 16 := (le_length_of_holds_circleId (by omega) hpassed).trans hlen
  refine ⟨n, hle, efound, ?_, hpassed⟩
  rw [efound]
  exact hfree (Nat.lt_succ_of_le hle)

/-- A refusal moves its entry to the bay it names, or names none and removes it (R175, R176). -/
theorem refusePlacement_cases (s : Shelving) (p : Placement) :
    (∃ b, refusePlacement s p = (movePlacement (holdBay s p.bay) p.id b, some b, .none)) ∨
    ∃ why, refusePlacement s p = (removePlacement (holdBay s p.bay) p.id, none, why) := by
  unfold refusePlacement
  dsimp only
  split
  · exact .inr ⟨_, rfl⟩
  · split
    · exact .inl ⟨_, rfl⟩
    · exact .inr ⟨_, rfl⟩

@[simp] theorem movePlacement_nextId (s : Shelving) (id : Nat) (b : Fin 64) :
    (movePlacement s id b).nextId = s.nextId := rfl

@[simp] theorem removePlacement_nextId (s : Shelving) (id : Nat) : (removePlacement s id).nextId = s.nextId := rfl

@[simp] theorem holdBay_nextId (s : Shelving) (b : Fin 64) : (holdBay s b).nextId = s.nextId := rfl

@[simp] theorem holdBay_placements (s : Shelving) (b : Fin 64) : (holdBay s b).placements = s.placements := rfl

@[simp] theorem confirmPlacement_nextId (s : Shelving) (p : Placement) : (confirmPlacement s p).nextId = s.nextId := rfl

/-- A moved entry keeps its id (R176). -/
@[simp] theorem movePlacement_ids (s : Shelving) (id : Nat) (b : Fin 64) :
    (movePlacement s id b).placements.map (·.id) = s.placements.map (·.id) := by
  unfold movePlacement
  rw [List.map_map]
  refine List.map_congr_left fun p _ => ?_
  dsimp only [Function.comp_apply]
  split <;> rfl

theorem refusePlacement_nextId (s : Shelving) (p : Placement) : (refusePlacement s p).1.nextId = s.nextId := by
  obtain ⟨b, e⟩ | ⟨why, e⟩ := refusePlacement_cases s p <;> rw [e] <;> simp

/-- A re-planned refusal leaves the list's ids (R176). -/
theorem refusePlacement_ids {s : Shelving} {p : Placement} {b : Fin 64} (h : (refusePlacement s p).2.1 = some b) :
    (refusePlacement s p).1.placements.map (·.id) = s.placements.map (·.id) := by
  obtain ⟨c, e⟩ | ⟨why, e⟩ := refusePlacement_cases s p <;> rw [e] at h ⊢
  · simp
  · exact absurd h.symm (Option.some_ne_none b)

/-- A disposition that places nothing leaves the shelving unit (R169). -/
theorem dispose_shelf_of_not_placed {s : Shelving} {r : ReelRecord} (h : (dispose s r).1.outcome ≠ .placed) :
    (dispose s r).2 = s := by
  obtain ⟨hsame, -⟩ | ⟨b, -, -, -, -, hplaced⟩ := dispose_cases s r
  · exact hsame
  · exact absurd hplaced h

/-- A RESET message with an empty body takes effect whatever the reply queue holds (R185, R194). -/
theorem runVerb_reset (tag : Byte) (s : State) : runVerb .reset tag [] s = runReset tag (endFraming s) := by
  unfold runVerb
  exact if_pos ⟨rfl, rfl⟩

/-- The RESET verb leaves the shelving unit (R180). -/
theorem exec_reset_shelf {s t : State} {tag : Byte} (e : exec (.reset tag []) s = .next t) : t.shelf = s.shelf := by
  have hnext : (if s.npor then runVerb .reset tag [] s else s) = t := Host.Outcome.next.inj e
  rw [← hnext, runVerb_reset]
  split <;> rfl

/-- Settles O47: the search stops at the first free id, and nothing but an append writes the next id. -/
theorem placementIdIsTheFirstFree : Obligations.PlacementIdIsTheFirstFree := by
  unfold Obligations.PlacementIdIsTheFirstFree
  refine ⟨fun s hlen h1 h2 => takeId_firstFree s hlen h1 h2, fun s r p b => ⟨rfl, _, rfl, rfl⟩,
    fun s r h => by rw [dispose_shelf_of_not_placed h],
    fun s p => ⟨refusePlacement_nextId s p, confirmPlacement_nextId s p, fun b => refusePlacement_ids⟩,
    fun lane => rfl, fun s tag t e => by rw [exec_reset_shelf e]⟩

end Sys2Proof.Machine
end

section
/-! PROOFS. The rules of the shared operations that the statements of this part use: what each one does to the fields it
writes, and the fields it leaves that `Laws/Frames` does not name. -/
namespace Sys2Proof.Machine

-- One thread a theorem is too many for the joined text under its memory limit.
set_option Elab.async false

/-! ## A state put together from its blocks -/

@[simp] theorem slot_mk (pending npor link reels store reg xport defect repair grade shelf svc) (k : Fin 4) :
    (State.mk pending npor link reels store reg xport defect repair grade shelf svc).slot k = store.slots.get k := rfl
@[simp] theorem reel_mk (pending npor link reels store reg xport defect repair grade shelf svc) (r : Fin 2) :
    (State.mk pending npor link reels store reg xport defect repair grade shelf svc).reel r = reels.recs.get r := rfl
@[simp] theorem store_slots_get (s : State) (k : Fin 4) : s.store.slots.get k = s.slot k := rfl
@[simp] theorem reels_recs_get (s : State) (r : Fin 2) : s.reels.recs.get r = s.reel r := rfl

theorem slot_of_store {s t : State} (h : t.store = s.store) (k : Fin 4) : t.slot k = s.slot k := by
  unfold State.slot; rw [h]

theorem reel_of_recs {s t : State} (h : t.reels.recs = s.reels.recs) (r : Fin 2) : t.reel r = s.reel r := by
  unfold State.reel; rw [h]

@[simp] theorem setRx_slot (x : RxState) (s : State) (k : Fin 4) : (setRx x s).slot k = s.slot k := rfl
@[simp] theorem setRx_reel (x : RxState) (s : State) (r : Fin 2) : (setRx x s).reel r = s.reel r := rfl
@[simp] theorem setRx_scanOut (x : RxState) (s : State) : (setRx x s).link.scanOut = s.link.scanOut := rfl
@[simp] theorem setRx_ingestOut (x : RxState) (s : State) : (setRx x s).link.ingestOut = s.link.ingestOut := rfl

/-! ## The end of an event -/

section
variable (before s : State)

@[simp] theorem settle_slot (k : Fin 4) : (settle before s).slot k = s.slot k := slot_of_store (by simp) k

@[simp] theorem settle_reel (r : Fin 2) : (settle before s).reel r = s.reel r := reel_of_recs (by simp) r

/-- An event's end leaves of the service engine all but the summary flag and CONDITION_CHANGE. -/
@[simp] theorem settle_svc_frame :
    (settle before s).svc.pair = s.svc.pair ∧ (settle before s).svc.framing = s.svc.framing ∧
    (settle before s).svc.queue = s.svc.queue ∧ (settle before s).svc.copies = s.svc.copies ∧
    (settle before s).svc.leftover = s.svc.leftover ∧ (settle before s).svc.faultKind = s.svc.faultKind ∧
    (settle before s).svc.faultCount = s.svc.faultCount ∧ (settle before s).svc.stray = s.svc.stray ∧
    (settle before s).svc.mask = s.svc.mask ∧ (settle before s).svc.resetSeen = s.svc.resetSeen ∧
    (settle before s).svc.causes.linkFault = s.svc.causes.linkFault ∧
    (settle before s).svc.causes.frameLost = s.svc.causes.frameLost ∧
    (settle before s).svc.causes.serviceFault = s.svc.causes.serviceFault ∧
    (settle before s).svc.causes.tear = s.svc.causes.tear ∧
    (settle before s).svc.causes.acqFailed = s.svc.causes.acqFailed := by
  obtain e | e := settle_svc before s <;> rw [e] <;> simp

/-- An event's end leaves of transport control all but LOAD_HOLD. -/
@[simp] theorem settle_xport_frame :
    (settle before s).xport.table = s.xport.table ∧ (settle before s).xport.cls = s.xport.cls ∧
    (settle before s).xport.ceiling = s.xport.ceiling ∧ (settle before s).xport.heldRun = s.xport.heldRun ∧
    (settle before s).xport.goodRun = s.xport.goodRun ∧ (settle before s).xport.cmdStep = s.xport.cmdStep ∧
    (settle before s).xport.mismatch = s.xport.mismatch ∧ (settle before s).xport.stale = s.xport.stale ∧
    (settle before s).xport.lastReported = s.xport.lastReported ∧ (settle before s).xport.hyst = s.xport.hyst := by
  rw [settle_xport]; simp

end

/-! ## Credits and writes -/

section
variable (tag : Option (Fin 2)) (f : Counters → Counters) (g : ReelRecord → ReelRecord) (r : Fin 2) (s : State)

@[simp] theorem creditTo_reports : (creditTo tag f s).reels.last = s.reels.last ∧
    (creditTo tag f s).reels.waiting = s.reels.waiting ∧ (creditTo tag f s).reels.refused = s.reels.refused := by
  unfold creditTo
  (repeat' split) <;> exact ⟨rfl, rfl, rfl⟩

@[simp] theorem creditTo_slot (k : Fin 4) : (creditTo tag f s).slot k = s.slot k := slot_of_store (by simp) k

@[simp] theorem writeTo_reports : (writeTo r g s).reels.last = s.reels.last ∧
    (writeTo r g s).reels.waiting = s.reels.waiting ∧ (writeTo r g s).reels.refused = s.reels.refused := by
  unfold writeTo
  split <;> exact ⟨rfl, rfl, rfl⟩

@[simp] theorem writeTo_slot (k : Fin 4) : (writeTo r g s).slot k = s.slot k := slot_of_store (by simp) k

end

/-! ## Links and slots -/

@[simp] theorem settleLinks_list (v : Slot → SuccLink) (s : State) :
    (settleLinks v s).store.list = s.store.list ∧ (settleLinks v s).store.emission = s.store.emission ∧
    (settleLinks v s).store.spliceSeen = s.store.spliceSeen := ⟨rfl, rfl, rfl⟩

/-- An UNSETTLED link of a stored frame takes its value; nothing else of any slot changes (R44). -/
@[simp] theorem settleLinks_slot (v : Slot → SuccLink) (s : State) (k : Fin 4) :
    (settleLinks v s).slot k =
      if (s.slot k).state ≠ .free ∧ (s.slot k).link = .unsettled then { s.slot k with link := v (s.slot k) }
      else s.slot k := mapSlots_slot _ _ _

@[simp] theorem settleLinks_reel (v : Slot → SuccLink) (s : State) (r : Fin 2) :
    (settleLinks v s).reel r = s.reel r := rfl

@[simp] theorem movePending_list (k : Fin 4) (v : SuccLink) (s : State) :
    (movePending k v s).store.list = s.store.list ∧ (movePending k v s).store.emission = s.store.emission ∧
    (movePending k v s).store.spliceSeen = s.store.spliceSeen := ⟨rfl, rfl, rfl⟩

/-- A link PENDING on the slot takes the new value; nothing else of any slot changes (R44). -/
@[simp] theorem movePending_slot (k : Fin 4) (v : SuccLink) (s : State) (j : Fin 4) :
    (movePending k v s).slot j =
      if (s.slot j).state ≠ .free ∧ (s.slot j).link = .pending k then { s.slot j with link := v }
      else s.slot j := mapSlots_slot _ _ _

@[simp] theorem movePending_reel (k : Fin 4) (v : SuccLink) (s : State) (r : Fin 2) :
    (movePending k v s).reel r = s.reel r := rfl

@[simp] theorem removeFrame_list (k : Fin 4) (s : State) :
    (removeFrame k s).store.list = s.store.list.filter (fun e => decide (e ≠ .frame k)) ∧
    (removeFrame k s).store.emission = s.store.emission ∧
    (removeFrame k s).store.spliceSeen = s.store.spliceSeen := ⟨rfl, rfl, rfl⟩

@[simp] theorem removeFrame_reel (k : Fin 4) (s : State) (r : Fin 2) : (removeFrame k s).reel r = s.reel r := rfl

@[simp] theorem releaseKept_list (k : Fin 4) (s : State) :
    (releaseKept k s).store.list = s.store.list ∧ (releaseKept k s).store.emission = s.store.emission ∧
    (releaseKept k s).store.spliceSeen = s.store.spliceSeen := ⟨rfl, rfl, rfl⟩

/-- The KEPT predecessor of a slot is freed (R47). -/
@[simp] theorem releaseKept_slot (k : Fin 4) (s : State) (j : Fin 4) :
    (releaseKept k s).slot j =
      if (s.slot j).state = .kept ∧ (s.slot j).link = .ready k then { s.slot j with state := .free }
      else s.slot j := mapSlots_slot _ _ _

@[simp] theorem releaseKept_reel (k : Fin 4) (s : State) (r : Fin 2) : (releaseKept k s).reel r = s.reel r := rfl

@[simp] theorem discardFrame_list (k : Fin 4) (s : State) :
    (discardFrame k s).store.list = s.store.list.filter (fun e => decide (e ≠ .frame k)) ∧
    (discardFrame k s).store.emission = s.store.emission ∧
    (discardFrame k s).store.spliceSeen = s.store.spliceSeen := ⟨rfl, rfl, rfl⟩

@[simp] theorem discardFrame_reel (k : Fin 4) (s : State) (r : Fin 2) : (discardFrame k s).reel r = s.reel r := rfl

@[simp] theorem regDiscard_slot (r : Fin 2) (s : State) (k : Fin 4) : (regDiscard r s).slot k = s.slot k := rfl
@[simp] theorem regDiscard_reel (r q : Fin 2) (s : State) : (regDiscard r s).reel q = s.reel q := rfl

/-! ## Emission start -/

@[simp] theorem takeTrim_reports (tag : Option (Fin 2)) (s : State) :
    (takeTrim tag s).reels.last = s.reels.last ∧ (takeTrim tag s).reels.waiting = s.reels.waiting ∧
    (takeTrim tag s).reels.refused = s.reels.refused := by
  unfold takeTrim
  split <;> simp

@[simp] theorem planFrame_reports (k : Fin 4) (r : Fin 2) (s : State) :
    (planFrame k r s).reels.last = s.reels.last ∧ (planFrame k r s).reels.waiting = s.reels.waiting ∧
    (planFrame k r s).reels.refused = s.reels.refused := by
  simp [planFrame]

@[simp] theorem planFrame_slot (k : Fin 4) (r : Fin 2) (s : State) (j : Fin 4) : (planFrame k r s).slot j = s.slot j :=
  slot_of_store (by simp) j

@[simp] theorem startEmission_reports (k : Fin 4) (s : State) :
    (startEmission k s).reels.last = s.reels.last ∧ (startEmission k s).reels.waiting = s.reels.waiting ∧
    (startEmission k s).reels.refused = s.reels.refused := by
  unfold startEmission
  dsimp only
  split <;> simp

/-- An emission start makes its slot EMITTING and enters the emission; the list stands (R46). -/
@[simp] theorem startEmission_store (k : Fin 4) (s : State) :
    (startEmission k s).store.list = s.store.list ∧ (startEmission k s).store.spliceSeen = s.store.spliceSeen ∧
    (startEmission k s).store.emission = some ⟨k, 0, statusOf s (s.slot k)⟩ := by
  unfold startEmission
  dsimp only
  split <;> simp

@[simp] theorem startEmission_slot (k j : Fin 4) (s : State) :
    (startEmission k s).slot j = if j = k then { s.slot k with state := .emitting } else s.slot j := by
  unfold startEmission
  dsimp only
  split <;> simp

@[simp] theorem checkHead_reports (s : State) :
    (checkHead s).reels.last = s.reels.last ∧ (checkHead s).reels.waiting = s.reels.waiting ∧
    (checkHead s).reels.refused = s.reels.refused := by
  obtain e | ⟨k, rest, -, -, -, -, e⟩ := checkHead_cases s <;> rw [e] <;> simp

@[simp] theorem checkHead_list (s : State) :
    (checkHead s).store.list = s.store.list ∧ (checkHead s).store.spliceSeen = s.store.spliceSeen := by
  obtain e | ⟨k, rest, -, -, -, -, e⟩ := checkHead_cases s <;> rw [e] <;> simp

/-- The check of the head changes at most the state of one slot (R45). -/
theorem checkHead_slot (s : State) (j : Fin 4) :
    (checkHead s).slot j = { s.slot j with state := ((checkHead s).slot j).state } := by
  obtain e | ⟨k, rest, -, -, -, -, e⟩ := checkHead_cases s <;> rw [e]
  rw [startEmission_slot]
  split
  · next h => subst h; rfl
  · rfl

end Sys2Proof.Machine
end

section
/-! PROOFS. The invariants of the whole part (`Safety`): what each reads, and the record of all of them, `Kept`, that every
operation of the part is shown to keep. An operation's lemma states the parts it moves; a part it leaves is kept because
the equations of what the invariant reads hold. -/
namespace Sys2Proof.Machine

-- One thread a theorem is too many for the joined text under its memory limit.
set_option Elab.async false

/-! ## What each invariant reads -/

section
variable {s t : State}

theorem State.withinCeiling.of_eq (h : s.withinCeiling) (hc : t.xport.cls = s.xport.cls := by simp)
    (hl : t.xport.ceiling = s.xport.ceiling := by simp) : t.withinCeiling := by
  unfold State.withinCeiling; rw [hc, hl]; exact h

theorem State.countersInRange.of_eq (h : s.countersInRange) (he : t.link.errors = s.link.errors := by simp)
    (hr : t.reels.refused = s.reels.refused := by simp) (hs : t.svc.stray = s.svc.stray := by simp)
    (hf : t.svc.faultCount = s.svc.faultCount := by simp) : t.countersInRange := by
  unfold State.countersInRange; rw [he, hr, hs, hf]; exact h

theorem State.queueInRange.of_eq (h : s.queueInRange) (hq : t.svc.queue = s.svc.queue := by simp) :
    t.queueInRange := by
  unfold State.queueInRange; rw [hq]; exact h

theorem State.framingInRange.of_eq (h : s.framingInRange) (hf : t.svc.framing = s.svc.framing := by simp) :
    t.framingInRange := by
  unfold State.framingInRange; rw [hf]; exact h

theorem State.listsInRange.of_eq (h : s.listsInRange) (hp : t.shelf.placements = s.shelf.placements := by simp)
    (ht : t.defect.tracks = s.defect.tracks := by simp) (hl : t.store.list = s.store.list := by simp)
    (hr : ∀ k, (t.slot k).regions = (s.slot k).regions := by simp) : t.listsInRange := by
  unfold State.listsInRange; rw [hp, ht, hl]; simp only [hr]; exact h

theorem State.placementsApart.of_eq (h : s.placementsApart)
    (hp : t.shelf.placements = s.shelf.placements := by simp) (hn : t.shelf.nextId = s.shelf.nextId := by simp) :
    t.placementsApart := by
  unfold State.placementsApart; rw [hp, hn]; exact h

theorem State.tracksApart.of_eq (h : s.tracksApart) (ht : t.defect.tracks = s.defect.tracks := by simp) :
    t.tracksApart := by
  unfold State.tracksApart; rw [ht]; exact h

theorem State.tablesInRange.of_eq (h : s.tablesInRange) (hr : t.reg.table = s.reg.table := by simp)
    (hx : t.xport.table = s.xport.table := by simp) (hd : t.defect.table = s.defect.table := by simp)
    (hg : t.grade.prog = s.grade.prog := by simp) (hp : t.shelf.policy = s.shelf.policy := by simp)
    (hb : t.shelf.bays = s.shelf.bays := by simp) : t.tablesInRange := by
  unfold State.tablesInRange; rw [hr, hx, hd, hg, hp, hb]; exact h

theorem State.checksumCurrent.of_eq (h : s.checksumCurrent) (hg : t.grade.prog = s.grade.prog := by simp)
    (hc : t.grade.progCheck = s.grade.progCheck := by simp) : t.checksumCurrent := by
  unfold State.checksumCurrent; rw [hg, hc]; exact h

end

/-- The counters that account for a reel's frames stand (R33). -/
def sameLedger (c d : Counters) : Prop :=
  d.opened = c.opened ∧ d.emitted = c.emitted ∧ d.dropped = c.dropped ∧ d.discarded = c.discarded

/-- The frame store's side of the bookkeeping stands: receive state, cell under way, emission list, emission, and the state
and the tag of every slot. -/
structure SameFrames (s t : State) : Prop where
  rx : t.link.rx = s.link.rx := by simp
  inFlight : t.link.inFlight = s.link.inFlight := by simp
  list : t.store.list = s.store.list := by simp
  emitting : emittingSlot t = emittingSlot s := by simp [emittingSlot]
  state : ∀ k, (t.slot k).state = (s.slot k).state := by simp
  tag : ∀ k, (t.slot k).tag = (s.slot k).tag := by simp

/-- The frame bookkeeping stands: the frame store's side, and the kind and the four frame counters of every record. -/
structure SameBooks (s t : State) : Prop extends SameFrames s t where
  kind : ∀ r, stateCode (t.reel r).state = stateCode (s.reel r).state := by simp
  ledger : ∀ r, sameLedger (s.reel r).counters (t.reel r).counters := by simp [sameLedger]

/-! ## The kind of a record -/

theorem isActive_iff (r : ReelRecord) : r.isActive = true ↔ stateCode r.state = 1 := by
  unfold ReelRecord.isActive stateCode; cases r.state <;> simp

theorem occupied_iff (r : ReelRecord) : r.occupied = true ↔ stateCode r.state ≠ 0 := by
  unfold ReelRecord.occupied stateCode; cases r.state <;> simp

theorem free_iff (r : ReelRecord) : r.state = .free ↔ stateCode r.state = 0 := by
  unfold stateCode; cases r.state <;> simp

theorem draining_iff (r : ReelRecord) : r.state = .draining ↔ stateCode r.state = 2 := by
  unfold stateCode; cases r.state <;> simp

theorem disposing_iff (r : ReelRecord) : r.state = .disposing ↔ stateCode r.state = 3 := by
  unfold stateCode; cases r.state <;> simp

/-- A frame of a slot counts in its reel's store term by the state of its slot (R28). -/
theorem inStore_congr {x y : Slot} (h : x.state = y.state) : inStore x = inStore y := by
  unfold inStore; rw [h]

/-- The store count of a reel is read from the tags of the slots and from which of them are in the store (R28). -/
theorem storeCount_congr {s t : State} (hs : ∀ k, inStore (t.slot k) = inStore (s.slot k))
    (ht : ∀ k, (t.slot k).tag = (s.slot k).tag) (r : Fin 2) : storeCount t r = storeCount s r := by
  unfold storeCount
  simp only [ht, hs]

/-- A frame of record `r` stands in slot `k` and counts in the reel's store term. -/
def holdsFrameOf (s : State) (r : Fin 2) (k : Fin 4) : Bool := decide ((s.slot k).tag = some r) && inStore (s.slot k)

theorem storeCount_eq_sum (s : State) (r : Fin 2) :
    storeCount s r = flag (holdsFrameOf s r 0) + flag (holdsFrameOf s r 1) + flag (holdsFrameOf s r 2) +
      flag (holdsFrameOf s r 3) := by
  have hfilter : ∀ ks : List (Fin 4), (ks.filter (holdsFrameOf s r)).length = (ks.map fun k => flag (holdsFrameOf s r k)).sum := by
    intro ks
    induction ks with
    | nil => rfl
    | cons k ks ih => rw [List.filter_cons, List.map_cons, List.sum_cons, ← ih]; cases holdsFrameOf s r k <;> simp [flag, Nat.add_comm]
  show (slotIdx.filter (holdsFrameOf s r)).length = _
  rw [hfilter]
  simp [slotIdx, Nat.add_assoc]

/-- Where one slot alone changes, a store count changes by what that slot holds. -/
theorem storeCount_change {s t : State} {k : Fin 4} {r : Fin 2}
    (h : ∀ j, j ≠ k → holdsFrameOf t r j = holdsFrameOf s r j) :
    storeCount t r + flag (holdsFrameOf s r k) = storeCount s r + flag (holdsFrameOf t r k) := by
  rw [storeCount_eq_sum, storeCount_eq_sum]
  fin_cases k <;> simp_all <;> omega

/-- A reel whose store count is 0 has no frame in the store. -/
theorem holdsFrameOf_of_storeCount_zero {s : State} {r : Fin 2} (h : storeCount s r = 0) (k : Fin 4) :
    holdsFrameOf s r k = false := by
  have hempty : slotIdx.filter (holdsFrameOf s r) = [] := List.length_eq_zero_iff.mp h
  have hmem : k ∈ slotIdx := by fin_cases k <;> simp [slotIdx]
  simpa using List.filter_eq_nil_iff.mp hempty k hmem

theorem noticeFree_congr {s t : State} (h : t.svc.queue = s.svc.queue) : noticeFree t = noticeFree s := by
  unfold noticeFree; rw [h]

section
variable {s t : State}

/-- Who waits for the notice position is read from the records' kinds, the waiting list and the queue (R30). -/
theorem State.waitingServed.of_eq (h : s.waitingServed) (hw : t.reels.waiting = s.reels.waiting := by simp)
    (hk : ∀ r, stateCode (t.reel r).state = stateCode (s.reel r).state := by simp)
    (hn : noticeFree t = noticeFree s := by exact noticeFree_congr (by simp)) : t.waitingServed := by
  obtain ⟨hnd, hiff, hfree⟩ := h
  unfold State.waitingServed
  rw [hw, hn]
  refine ⟨hnd, fun r => ?_, hfree⟩
  rw [hiff r, disposing_iff, disposing_iff, hk]

/-- Work on the records alone keeps the bookkeeping if it keeps what the bookkeeping says of the records. -/
theorem State.framesAccounted.of_records (h : s.framesAccounted) (b : SameFrames s t) (hone : t.oneActive)
    (hfill : ∀ k r, (s.slot k).state = .filling → (s.slot k).tag = some r → (t.reel r).isActive = true)
    (hcons : ∀ r, (((t.reel r).state = .free ∨ (t.reel r).state = .disposing) → storeCount s r = 0) ∧
      ((t.reel r).occupied = true → (t.reel r).counters.opened < Config.counterMax →
        (t.reel r).counters.opened = (t.reel r).counters.emitted + (t.reel r).counters.dropped +
          (t.reel r).counters.discarded + storeCount s r)) : t.framesAccounted := by
  obtain ⟨hslots, hhead, hlist, -, -, -⟩ := h
  refine ⟨fun k => ?_, fun f hf hp => ?_, fun k => ?_, hone, fun k r hk hr => ?_, fun r => ?_⟩
  · rw [b.state, b.rx, b.emitting]; exact hslots k
  · rw [b.list]; exact hhead f (b.inFlight ▸ hf) hp
  · rw [b.list, inStore_congr (b.state k)]; exact hlist k
  · exact hfill k r (b.state k ▸ hk) (b.tag k ▸ hr)
  · rw [storeCount_congr (fun k => inStore_congr (b.state k)) b.tag]; exact hcons r

/-- A record changed in no more than its kind, from one that is not FREE, keeps its account of frames. -/
theorem State.framesAccounted.of_kinds (h : s.framesAccounted) (b : SameFrames s t) (hone : t.oneActive)
    (hfill : ∀ k r, (s.slot k).state = .filling → (s.slot k).tag = some r → (t.reel r).isActive = true)
    (hocc : ∀ r, (t.reel r).occupied = true → (s.reel r).occupied = true)
    (hfree : ∀ r, ((t.reel r).state = .free ∨ (t.reel r).state = .disposing) → storeCount s r = 0)
    (hledger : ∀ r, sameLedger (s.reel r).counters (t.reel r).counters) : t.framesAccounted := by
  obtain ⟨-, -, -, -, -, hcons⟩ := id h
  refine h.of_records b hone hfill fun r => ⟨hfree r, fun ho => ?_⟩
  obtain ⟨hop, hem, hdr, hdi⟩ := hledger r
  rw [hop, hem, hdr, hdi]
  exact (hcons r).2 (hocc r ho)

/-- The frame bookkeeping is read from what `SameBooks` names. -/
theorem State.framesAccounted.of_books (h : s.framesAccounted) (b : SameBooks s t) : t.framesAccounted := by
  obtain ⟨-, -, -, hone, hfill, hcons⟩ := id h
  have hactive : ∀ r, (t.reel r).isActive = true ↔ (s.reel r).isActive = true := fun r => by
    rw [isActive_iff, isActive_iff, b.kind]
  refine h.of_kinds b.toSameFrames ?_ (fun k r hk hr => ?_) (fun r => ?_) (fun r => ?_) b.ledger
  · unfold State.oneActive; rw [hactive, hactive]; exact hone
  · rw [hactive]; exact hfill k r hk hr
  · rw [occupied_iff, occupied_iff, b.kind]; exact id
  · rw [free_iff, disposing_iff, b.kind, ← free_iff, ← disposing_iff]; exact (hcons r).1

end

/-! ## Every invariant at once -/

/-- What an operation from `s` to `t` keeps: the waiting commands, and every invariant of `Safety` but the account of frames.
The default of a field serves an operation that leaves what the field's invariant reads. -/
structure LimitsKept (s t : State) : Prop where
  pending : t.pending = s.pending := by simp
  ceiling : s.withinCeiling → t.withinCeiling := by exact fun h => h.of_eq
  counters : s.countersInRange → t.countersInRange := by exact fun h => h.of_eq
  queue : s.queueInRange → t.queueInRange := by exact fun h => h.of_eq
  framing : s.framingInRange → t.framingInRange := by exact fun h => h.of_eq
  lists : s.listsInRange → t.listsInRange := by exact fun h => h.of_eq
  waiting : s.waitingServed → t.waitingServed := by exact fun h => h.of_eq
  placements : s.placementsApart → t.placementsApart := by exact fun h => h.of_eq
  tracks : s.tracksApart → t.tracksApart := by exact fun h => h.of_eq
  tables : s.tablesInRange → t.tablesInRange := by exact fun h => h.of_eq
  checksum : s.checksumCurrent → t.checksumCurrent := by exact fun h => h.of_eq

/-- What an operation from `s` to `t` keeps: every invariant of `Safety`. -/
structure Kept (s t : State) : Prop extends LimitsKept s t where
  frames : s.waitingServed → s.framesAccounted → t.framesAccounted := by exact fun _ h => h.of_books {}

theorem LimitsKept.trans {s t u : State} (h : LimitsKept s t) (k : LimitsKept t u) : LimitsKept s u where
  pending := k.pending.trans h.pending
  ceiling := k.ceiling ∘ h.ceiling
  counters := k.counters ∘ h.counters
  queue := k.queue ∘ h.queue
  framing := k.framing ∘ h.framing
  lists := k.lists ∘ h.lists
  waiting := k.waiting ∘ h.waiting
  placements := k.placements ∘ h.placements
  tracks := k.tracks ∘ h.tracks
  tables := k.tables ∘ h.tables
  checksum := k.checksum ∘ h.checksum

theorem Kept.refl (s : State) : Kept s s := ⟨⟨rfl, id, id, id, id, id, id, id, id, id, id⟩, fun _ => id⟩

theorem Kept.trans {s t u : State} (h : Kept s t) (k : Kept t u) : Kept s u where
  toLimitsKept := h.toLimitsKept.trans k.toLimitsKept
  frames hw hf := k.frames (h.waiting hw) (h.frames hw hf)

end Sys2Proof.Machine
end

section
/-! PROOFS. Every operation keeps every invariant: the operations of the scan port and of the emission. -/
namespace Sys2Proof.Machine

-- One thread a theorem is too many for the joined text under its memory limit.
set_option Elab.async false

/-! ## Credits, causes, links, the end of an event -/

theorem creditTo_kept (tag : Option (Fin 2)) {f : Counters → Counters} (s : State) (hf : ∀ c, sameLedger c (f c)) :
    Kept s (creditTo tag f s) where
  waiting h := h.of_eq (hk := fun r => by rw [creditTo_state])
  frames _ h := h.of_books {
    kind := fun r => by rw [creditTo_state]
    ledger := fun r => by
      rw [creditTo_reel]
      split
      · exact hf _
      · exact ⟨rfl, rfl, rfl, rfl⟩ }

/-- The receive state may move while no frame is open before or after. -/
theorem setRx_kept {x : RxState} {s : State} (hx : ∀ k, x ≠ .filling k) (hs : ∀ k, s.link.rx ≠ .filling k) :
    Kept s (setRx x s) where
  frames := by
    intro _ ⟨hslots, hrest⟩
    refine ⟨fun k => ⟨?_, (hslots k).2⟩, hrest⟩
    rw [setRx_slot, setRx_rx, (hslots k).1]
    exact ⟨fun h => absurd h (hs k), fun h => absurd h (hx k)⟩

theorem raiseCause_kept (c : Cause) (s : State) : Kept s (raiseCause c s) where

theorem settleLinks_kept (v : Slot → SuccLink) (s : State) : Kept s (settleLinks v s) where
  lists h := h.of_eq (hr := fun k => by rw [settleLinks_slot]; split <;> rfl)
  frames _ h := h.of_books {
    state := fun k => by rw [settleLinks_slot]; split <;> rfl
    tag := fun k => by rw [settleLinks_slot]; split <;> rfl }

theorem movePending_kept (k : Fin 4) (v : SuccLink) (s : State) : Kept s (movePending k v s) where
  lists h := h.of_eq (hr := fun k => by rw [movePending_slot]; split <;> rfl)
  frames _ h := h.of_books {
    state := fun k => by rw [movePending_slot]; split <;> rfl
    tag := fun k => by rw [movePending_slot]; split <;> rfl }

theorem settle_kept (before s : State) : Kept s (settle before s) where

/-! ## Emission start -/

theorem takeTrim_kept (tag : Option (Fin 2)) (s : State) : Kept s (takeTrim tag s) := by
  unfold takeTrim
  split
  · exact .trans {} (creditTo_kept tag _ fun _ => ⟨rfl, rfl, rfl, rfl⟩)
  · exact .refl s

theorem planFrame_kept (k : Fin 4) (r : Fin 2) (s : State) : Kept s (planFrame k r s) := by
  have hplan : Kept s { s with repair := some (planFor s k r) } := {}
  have hcredit := creditTo_kept (some r) (f := creditPlan (planFor s k r)) { s with repair := some (planFor s k r) }
    fun _ => ⟨rfl, rfl, rfl, rfl⟩
  exact (hplan.trans hcredit).trans (takeTrim_kept _ _)

/-- No slot is EMITTING, so none is the slot of an emission (R46). -/
theorem emittingSlot_eq_none {s : State} (h : s.framesAccounted) (hn : anyEmitting s = false) :
    emittingSlot s = none := by
  obtain ⟨hslots, -⟩ := h
  refine Option.eq_none_iff_forall_ne_some.mpr fun k hk => ?_
  have hem := (hslots k).2.mpr hk
  have hmem : k ∈ slotIdx := by fin_cases k <;> simp [slotIdx]
  have := List.any_eq_false.mp hn k hmem
  simp [hem] at this

/-- A CLOSED frame that begins its emission stays in the store, and its slot is the emission's (R46). -/
theorem startEmission_frames {k : Fin 4} {s : State} (h : s.framesAccounted) (hn : anyEmitting s = false)
    (hc : (s.slot k).state = .closed) : (startEmission k s).framesAccounted := by
  have hnone := emittingSlot_eq_none h hn
  obtain ⟨hslots, hhead, hlist, hone, hfill, hcons⟩ := h
  have hreel : ∀ q, stateCode ((startEmission k s).reel q).state = stateCode (s.reel q).state ∧
      sameLedger (s.reel q).counters ((startEmission k s).reel q).counters := fun q => by
    obtain ⟨c, e, hop, hem, hdr, hdi⟩ := startEmission_reel k s q
    rw [e]; exact ⟨rfl, hop, hem, hdr, hdi⟩
  have hactive : ∀ q, ((startEmission k s).reel q).isActive = true ↔ (s.reel q).isActive = true := fun q => by
    rw [isActive_iff, isActive_iff, (hreel q).1]
  have hin : ∀ j, inStore ((startEmission k s).slot j) = inStore (s.slot j) := fun j => by
    rw [startEmission_slot]; split
    · next e => subst e; simp [inStore, hc]
    · rfl
  have htag : ∀ j, ((startEmission k s).slot j).tag = (s.slot j).tag := fun j => by
    rw [startEmission_slot]; split
    · next e => subst e; rfl
    · rfl
  have hemitting : emittingSlot (startEmission k s) = some k := by simp [emittingSlot]
  refine ⟨fun j => ?_, fun f hf hp => ?_, fun j => ?_, ?_, fun j q hj hq => ?_, fun q => ?_⟩
  · rw [hemitting, startEmission_slot, (startEmission_frame k s).2.2.1]
    obtain ⟨hf, he⟩ := hslots j
    rw [hnone] at he
    by_cases e : j = k
    · subst e
      rw [hc] at hf
      simpa using hf
    · simpa [e, Ne.symm e] using And.intro hf he
  · simpa using hhead f (by simpa using hf) hp
  · rw [hin, (startEmission_store k s).1]; exact hlist j
  · unfold State.oneActive; rw [hactive, hactive]; exact hone
  · rw [hactive]
    refine hfill j q ?_ (htag j ▸ hq)
    rw [startEmission_slot] at hj
    split at hj
    · exact absurd hj (by simp)
    · exact hj
  · obtain ⟨hkind, hop, hem, hdr, hdi⟩ := hreel q
    rw [storeCount_congr hin htag, occupied_iff, free_iff, disposing_iff, hkind, hop, hem, hdr, hdi,
      ← occupied_iff, ← free_iff, ← disposing_iff]
    exact hcons q

theorem startEmission_grade (k : Fin 4) (s : State) :
    (startEmission k s).grade.prog = s.grade.prog ∧ (startEmission k s).grade.progCheck = s.grade.progCheck ∧
    (startEmission k s).grade.sel = s.grade.sel ∧ (startEmission k s).grade.fade = s.grade.fade := by
  unfold startEmission planFrame takeTrim
  dsimp only
  (repeat' split) <;> simp

theorem checkHead_kept (s : State) : Kept s (checkHead s) := by
  obtain e | ⟨k, rest, -, hn, hc, -, e⟩ := checkHead_cases s <;> rw [e]
  · exact .refl s
  · obtain ⟨hprog, hcheck, -, -⟩ := startEmission_grade k s
    exact {
      lists := fun h => h.of_eq (hr := fun j => by rw [startEmission_slot]; split <;> simp_all)
      waiting := fun h => h.of_eq (hk := fun q => by obtain ⟨c, e, -⟩ := startEmission_reel k s q; rw [e])
      frames := fun _ h => startEmission_frames h hn hc
      tables := fun h => h.of_eq (hg := hprog)
      checksum := fun h => h.of_eq hprog hcheck }

/-! ## Disposal -/

theorem takeNotice_idle {s : State} (h : noticeFree s = false ∨ s.reels.waiting = []) : takeNotice s = s := by
  obtain e | ⟨r, rest, hw, hf, -⟩ := takeNotice_cases s
  · exact e
  · obtain h | h := h
    · exact absurd (h.symm.trans hf) (by decide)
    · exact absurd (h.symm.trans hw) (by simp)

@[simp] theorem takeNotice_slot (s : State) (k : Fin 4) : (takeNotice s).slot k = s.slot k := slot_of_store (by simp) k

/-- The free notice position is taken for the record that waits longest (R30). -/
theorem takeNotice_served {s : State} {r : Fin 2} {rest : List (Fin 2)} (hw : s.reels.waiting = r :: rest)
    (hf : noticeFree s = true) :
    (takeNotice s).reels.waiting = rest ∧ (takeNotice s).reels.last = { s.reel r with state := .disposing } ∧
    (takeNotice s).reels.refused = s.reels.refused ∧
    (takeNotice s).svc = { s.svc with queue := s.svc.queue ++ [⟨true, noticeWords s.link.lane (s.reel r)⟩] } ∧
    ∀ q, (takeNotice s).reel q = if q = r then { s.reel r with state := .free } else s.reel q := by
  unfold takeNotice
  rw [hw]
  dsimp only
  rw [if_pos hf]
  exact ⟨rfl, rfl, rfl, rfl, fun q => by rw [updReel_reel]; rfl⟩

/-- While the invariant of the waiting records stands, no record is owed the notice position (R30). -/
theorem takeNotice_of_waitingServed {s : State} (h : s.waitingServed) : takeNotice s = s := by
  obtain ⟨-, -, hfree⟩ := h
  refine takeNotice_idle ?_
  by_cases hw : s.reels.waiting = []
  · exact .inr hw
  · exact .inl (hfree hw)

/-- The reply positions of a queue and its notices, after one more message. -/
theorem queueInRange_append {s t : State} {m : Message} (h : s.queueInRange) (hq : t.svc.queue = s.svc.queue ++ [m])
    (hn : m.notice = true → noticeFree s = true) (hr : m.notice = false → replyFree s = true) : t.queueInRange := by
  obtain ⟨hreplies, hnotices⟩ := h
  unfold State.queueInRange
  rw [hq, List.filter_append, List.filter_append, List.length_append, List.length_append]
  cases hm : m.notice with
  | true =>
    have hnone : s.svc.queue.filter (fun m => m.notice) = [] := by
      have := hn hm
      unfold noticeFree at this
      simpa using this
    simp [hm, hnone, hreplies]
  | false =>
    have hlt := of_decide_eq_true (hr hm)
    simp only [hm, List.filter_cons, List.filter_nil, Bool.not_false, if_true, Bool.false_eq_true, if_false,
      List.length_cons, List.length_nil]
    exact ⟨hlt, hnotices⟩

theorem takeNotice_queue_kept {s : State} (h : s.queueInRange) : (takeNotice s).queueInRange := by
  obtain e | ⟨r, rest, -, hf, -, -, -, hsvc, -⟩ := takeNotice_cases s
  · rw [e]; exact h
  · exact queueInRange_append h (congrArg Service.queue hsvc) (fun _ => hf) (by simp)

theorem takeNotice_kept (s : State) : Kept s (takeNotice s) := by
  refine {
    counters := fun h => ?_, queue := takeNotice_queue_kept, framing := fun h => ?_
    lists := fun h => h.of_eq (hr := fun k => by rw [takeNotice_slot])
    waiting := fun h => by rw [takeNotice_of_waitingServed h]; exact h
    frames := fun hw h => by rw [takeNotice_of_waitingServed hw]; exact h }
  · obtain e | ⟨r, rest, -, hf, -, -, href, hsvc, -⟩ := takeNotice_cases s
    · rw [e]; exact h
    · exact h.of_eq (he := by simp) href (by rw [hsvc]) (by rw [hsvc])
  · obtain e | ⟨r, rest, -, hf, -, -, href, hsvc, -⟩ := takeNotice_cases s
    · rw [e]; exact h
    · exact h.of_eq (by rw [hsvc])

/-- The record at its entry into DISPOSING, before the notice position is judged (R29, R30). -/
def enterWaiting (r : Fin 2) (s : State) : State :=
  let d := dispose s.shelf (s.reel r)
  let s1 := updReel r (fun _ => { d.1 with state := .disposing }) { s with shelf := d.2 }
  let s2 := if d.1.outcome = .placed then handCount s1 else s1
  { s2 with reels := { s2.reels with waiting := s2.reels.waiting ++ [r] } }

theorem disposeReel_eq (r : Fin 2) (s : State) : disposeReel r s = takeNotice (enterWaiting r s) := rfl

@[simp] theorem handCount_reel (s : State) (q : Fin 2) : (handCount s).reel q = s.reel q := rfl
@[simp] theorem handCount_slot (s : State) (k : Fin 4) : (handCount s).slot k = s.slot k := rfl
@[simp] theorem handCount_xport_frame (s : State) :
    (handCount s).xport = { s.xport with hyst := hystAfter s.shelf.placements.length s.xport.hyst } := rfl

section
variable (r : Fin 2) (s : State)

@[simp] theorem enterWaiting_frame : (enterWaiting r s).pending = s.pending ∧ (enterWaiting r s).npor = s.npor ∧
    (enterWaiting r s).link = s.link ∧ (enterWaiting r s).store = s.store ∧ (enterWaiting r s).reg = s.reg ∧
    (enterWaiting r s).defect = s.defect ∧ (enterWaiting r s).repair = s.repair ∧
    (enterWaiting r s).grade = s.grade ∧ (enterWaiting r s).svc = s.svc ∧
    (enterWaiting r s).shelf = (dispose s.shelf (s.reel r)).2 ∧
    (enterWaiting r s).reels.waiting = s.reels.waiting ++ [r] ∧ (enterWaiting r s).reels.last = s.reels.last ∧
    (enterWaiting r s).reels.refused = s.reels.refused := by
  unfold enterWaiting
  dsimp only
  split <;> simp

/-- The record that enters DISPOSING holds its disposition (R29). -/
@[simp] theorem enterWaiting_reel (q : Fin 2) : (enterWaiting r s).reel q =
    if q = r then { (dispose s.shelf (s.reel r)).1 with state := .disposing } else s.reel q := by
  unfold enterWaiting
  dsimp only
  split <;> simp

/-- A placement appended hands the count on; nothing else of transport control moves (R172). -/
theorem enterWaiting_xport : (enterWaiting r s).xport = { s.xport with
    hyst := if (dispose s.shelf (s.reel r)).1.outcome = .placed then
      hystAfter (dispose s.shelf (s.reel r)).2.placements.length s.xport.hyst else s.xport.hyst } := by
  unfold enterWaiting
  dsimp only
  split <;> simp_all

theorem enterWaiting_waiting : (enterWaiting r s).reels.waiting = s.reels.waiting ++ [r] := by simp

@[simp] theorem enterWaiting_slot (k : Fin 4) : (enterWaiting r s).slot k = s.slot k := slot_of_store (by simp) k

end

/-- A disposition writes a record's disposition fields alone (R29, R169). -/
theorem dispose_record (s : Shelving) (r : ReelRecord) :
    ∃ o why bay id, (dispose s r).1 = writeDisposition r (policyOf s r) o why bay id := by
  unfold dispose
  dsimp only
  (repeat' split) <;> exact ⟨_, _, _, _, rfl⟩

@[simp] theorem dispose_counters (s : Shelving) (r : ReelRecord) : (dispose s r).1.counters = r.counters := by
  obtain ⟨o, why, bay, id, e⟩ := dispose_record s r; rw [e]; rfl

@[simp] theorem dispose_header (s : Shelving) (r : ReelRecord) : (dispose s r).1.header = r.header := by
  obtain ⟨o, why, bay, id, e⟩ := dispose_record s r; rw [e]; rfl

/-- The tables of the shelving unit stand through a disposition (R169). -/
@[simp] theorem dispose_tables (s : Shelving) (r : ReelRecord) :
    (dispose s r).2.policy = s.policy ∧ (dispose s r).2.bays = s.bays := by
  obtain ⟨e, -⟩ | ⟨b, -, -, -, e, -⟩ := dispose_cases s r <;> rw [e] <;> exact ⟨rfl, rfl⟩

/-- A disposition appends while fewer than 16 placements are listed (R169). -/
theorem dispose_placements_length (s : Shelving) (r : ReelRecord) (h : s.placements.length ≤ Config.maxPlacements) :
    (dispose s r).2.placements.length ≤ Config.maxPlacements := by
  obtain ⟨e, -⟩ | ⟨b, hlt, -, -, e, -⟩ := dispose_cases s r <;> rw [e]
  · exact h
  · simpa [appendPlacement] using hlt

/-- A placement appended has a free id, and a reel that no entry names (R169, R171). -/
theorem dispose_placementsApart {s t : State} {r : ReelRecord} (h : s.placementsApart)
    (ht : t.shelf = (dispose s.shelf r).2) : t.placementsApart := by
  obtain ⟨e, -⟩ | ⟨b, hlt, hreel, -, e, -⟩ := dispose_cases s.shelf r
  · exact h.of_eq (by rw [ht, e]) (by rw [ht, e])
  · obtain ⟨hlen, ⟨hn1, hn2⟩, hids, hpair⟩ := h
    obtain ⟨n, -, hid, hfree, -⟩ := takeId_firstFree s.shelf hlen hn1 hn2
    have hrange : 1 ≤ takeId s.shelf ∧ takeId s.shelf ≤ 255 := by rw [hid]; unfold circleId; omega
    unfold State.placementsApart
    rw [ht, e]
    refine ⟨by simpa [appendPlacement] using hlt, ?_, ?_, ?_⟩
    · show 1 ≤ nextIdAfter (takeId s.shelf) ∧ nextIdAfter (takeId s.shelf) ≤ 255
      unfold nextIdAfter; split <;> omega
    · intro p hp
      obtain hp | rfl := List.mem_append.mp hp |>.imp_right List.mem_singleton.mp
      · exact hids p hp
      · exact hrange
    · refine List.pairwise_append.mpr ⟨hpair, List.pairwise_singleton _ _, fun p hp q hq => ?_⟩
      obtain rfl := List.mem_singleton.mp hq
      exact ⟨hfree p hp, by simpa using List.any_eq_false.mp hreel p hp⟩

@[simp] theorem disposeReel_slot (r : Fin 2) (s : State) (k : Fin 4) : (disposeReel r s).slot k = s.slot k :=
  slot_of_store (by simp) k

@[simp] theorem disposeReel_shelf (r : Fin 2) (s : State) : (disposeReel r s).shelf = (dispose s.shelf (s.reel r)).2 := by
  rw [disposeReel_eq]; simp

/-- What a record's entry into DISPOSING makes of the records: it ends FREE and notified where the notice position is free,
for then none waited before it, and waits behind the others where it is taken (R30). -/
theorem disposeReel_cases {r : Fin 2} {s : State} (h : s.waitingServed) :
    (noticeFree s = true ∧ s.reels.waiting = [] ∧ (disposeReel r s).reels.waiting = [] ∧
      (disposeReel r s).reels.last = { (dispose s.shelf (s.reel r)).1 with state := .disposing } ∧
      (disposeReel r s).svc = { s.svc with queue := s.svc.queue ++
        [⟨true, noticeWords s.link.lane { (dispose s.shelf (s.reel r)).1 with state := .disposing }⟩] } ∧
      ∀ q, (disposeReel r s).reel q =
        if q = r then { (dispose s.shelf (s.reel r)).1 with state := .free } else s.reel q) ∨
    (noticeFree s = false ∧ disposeReel r s = enterWaiting r s) := by
  obtain ⟨-, -, hfree⟩ := h
  rw [disposeReel_eq]
  cases hn : noticeFree s with
  | true =>
    have hempty : s.reels.waiting = [] := by
      by_contra hw
      exact absurd ((hfree hw).symm.trans hn) (by decide)
    have hnf : noticeFree (enterWaiting r s) = true := (noticeFree_congr (by simp)).trans hn
    obtain ⟨hw, hl, -, hsvc, hreel⟩ := takeNotice_served (r := r) (rest := []) (by simp [hempty]) hnf
    refine .inl ⟨rfl, hempty, hw, by simpa using hl, by simpa using hsvc, fun q => ?_⟩
    rw [hreel]
    split <;> simp_all
  | false =>
    have hnf : noticeFree (enterWaiting r s) = false := (noticeFree_congr (by simp)).trans hn
    exact .inr ⟨rfl, takeNotice_idle (.inl hnf)⟩

/-- A DRAINING record does not wait yet, so its entry into DISPOSING leaves every waiting record waiting once (R30). -/
theorem disposeReel_waitingServed {r : Fin 2} {s : State} (h : s.waitingServed) (hd : (s.reel r).state = .draining) :
    (disposeReel r s).waitingServed := by
  obtain ⟨hnd, hiff, hfree⟩ := id h
  have hnot : r ∉ s.reels.waiting := fun hr => by simp [(hiff r).mp hr] at hd
  obtain ⟨hn, hempty, hw, -, -, hreel⟩ | ⟨hn, e⟩ := disposeReel_cases h
  · refine ⟨by rw [hw]; exact List.nodup_nil, fun q => ?_, fun hne => absurd hw hne⟩
    have := hiff q
    rw [hempty] at this
    rw [hw, hreel]
    split <;> simp_all
  · rw [e]
    refine ⟨?_, fun q => ?_, fun _ => (noticeFree_congr (by simp)).trans hn⟩
    · rw [enterWaiting_waiting]
      refine List.nodup_append.mpr ⟨hnd, List.nodup_singleton r, fun a ha b hb hab => hnot ?_⟩
      exact List.mem_singleton.mp hb ▸ hab ▸ ha
    · simp only [enterWaiting_frame, List.mem_append, List.mem_singleton, enterWaiting_reel, hiff q]
      split <;> simp_all

/-- A reel disposed with none of its frames in the store leaves the account of frames (R28). -/
theorem disposeReel_frames {r : Fin 2} {s : State} (hw : s.waitingServed) (h : s.framesAccounted)
    (hd : (s.reel r).state = .draining) (hz : storeCount s r = 0) : (disposeReel r s).framesAccounted := by
  obtain ⟨-, -, -, hone, hfill, hcons⟩ := id h
  have hrec : ∃ st, (st = .free ∨ st = .disposing) ∧ ∀ q, (disposeReel r s).reel q =
      if q = r then { (dispose s.shelf (s.reel r)).1 with state := st } else s.reel q := by
    obtain ⟨-, -, -, -, -, hreel⟩ | ⟨-, e⟩ := disposeReel_cases (r := r) hw
    · exact ⟨_, .inl rfl, hreel⟩
    · exact ⟨_, .inr rfl, by rw [e]; exact enterWaiting_reel r s⟩
  obtain ⟨st, hst, hreel⟩ := hrec
  have hactive : ∀ q, ((disposeReel r s).reel q).isActive = (s.reel q).isActive := fun q => by
    rw [hreel]
    split
    · next e => subst e; obtain rfl | rfl := hst <;> simp [ReelRecord.isActive, hd]
    · rfl
  refine h.of_kinds { } ?_ (fun k q hk hq => ?_) (fun q => ?_) (fun q => ?_) (fun q => ?_)
  · unfold State.oneActive; rw [hactive, hactive]; exact hone
  · rw [hactive]; exact hfill k q hk hq
  · rw [hreel]
    split
    · next e => subst e; simp [ReelRecord.occupied, hd]
    · exact id
  · rw [hreel]
    split
    · next e => subst e; exact fun _ => hz
    · exact (hcons q).1
  · rw [hreel]
    split
    · next e => subst e; simp [sameLedger]
    · exact ⟨rfl, rfl, rfl, rfl⟩

theorem disposeReel_kept {r : Fin 2} {s : State} (hd : (s.reel r).state = .draining) (hz : storeCount s r = 0) :
    Kept s (disposeReel r s) where
  ceiling h := by
    rw [disposeReel_eq]
    exact (takeNotice_kept _).ceiling (h.of_eq (by rw [enterWaiting_xport]) (by rw [enterWaiting_xport]))
  counters h := by
    rw [disposeReel_eq]
    exact (takeNotice_kept _).counters h.of_eq
  queue h := takeNotice_queue_kept (s := enterWaiting r s) h.of_eq
  framing h := by
    rw [disposeReel_eq]
    exact (takeNotice_kept _).framing h.of_eq
  lists := by
    intro ⟨hp, ht, hl, hr⟩
    refine ⟨?_, by simpa using ht, by simpa using hl, by simpa using hr⟩
    rw [disposeReel_shelf]
    exact dispose_placements_length _ _ hp
  waiting h := disposeReel_waitingServed h hd
  frames hw h := disposeReel_frames hw h hd hz
  placements h := dispose_placementsApart h (disposeReel_shelf r s)
  tables h := h.of_eq (hx := by rw [disposeReel_eq, (takeNotice_frame _).2.2.2.2.2.1, enterWaiting_xport])

theorem judgeStore_kept (r : Fin 2) (s : State) : Kept s (judgeStore r s) := by
  obtain ⟨hd, hz, e⟩ | ⟨-, e⟩ := judgeStore_cases r s <;> rw [e]
  · exact disposeReel_kept hd hz
  · exact .refl s

/-! ## A frame leaves the store -/

/-- The frames of a record that have left the store, by emission, loss or discard (R33). -/
def goneCount (c : Counters) : Nat := c.emitted + c.dropped + c.discarded

theorem count_removeFrame (l : List Entry) (k j : Fin 4) :
    (l.filter fun e => decide (e ≠ .frame k)).count (.frame j) = if j = k then 0 else l.count (.frame j) := by
  split
  · next h =>
    subst h
    exact List.count_eq_zero.mpr (by simp)
  · next h => exact List.count_filter (by simpa using h)

theorem inStore_of_filling {x : Slot} (h : x.state = .filling) : inStore x = true := by simp [inStore, h]
theorem inStore_of_emitting {x : Slot} (h : x.state = .emitting) : inStore x = true := by simp [inStore, h]
theorem inStore_of_free {x : Slot} (h : x.state = .free) : inStore x = false := by simp [inStore, h]

/-- The frame of slot `k` leaves the store: its slot, its entry and its part of the receive state or of the emission go, and
its record counts it once more among the frames that have left (R14, R47). -/
structure LeavesStore (k : Fin 4) (s t : State) : Prop where
  out : (t.slot k).state = .free ∨ (t.slot k).state = .kept
  others : ∀ j, j ≠ k → inStore (t.slot j) = inStore (s.slot j) ∧ (t.slot j).tag = (s.slot j).tag ∧
    ((t.slot j).state = .filling ↔ (s.slot j).state = .filling) ∧
    ((t.slot j).state = .emitting ↔ (s.slot j).state = .emitting)
  list : t.store.list = s.store.list.filter fun e => decide (e ≠ .frame k)
  rx : ∀ j, t.link.rx = .filling j ↔ j ≠ k ∧ s.link.rx = .filling j
  emitting : ∀ j, emittingSlot t = some j ↔ j ≠ k ∧ emittingSlot s = some j
  inFlight : t.link.inFlight = s.link.inFlight
  kind : ∀ q, (t.reel q).state = (s.reel q).state
  opened : ∀ q, (t.reel q).counters.opened = (s.reel q).counters.opened
  gone : ∀ q, (s.reel q).state ≠ .free → goneCount (s.reel q).counters < Config.counterMax →
    goneCount (t.reel q).counters = goneCount (s.reel q).counters + flag (decide ((s.slot k).tag = some q))

theorem LeavesStore.framesAccounted {k : Fin 4} {s t : State} (m : LeavesStore k s t) (h : s.framesAccounted)
    (hin : inStore (s.slot k) = true) : t.framesAccounted := by
  obtain ⟨hslots, hhead, hlist, hone, hfill, hcons⟩ := h
  have hout : inStore (t.slot k) = false ∧ (t.slot k).state ≠ .filling ∧ (t.slot k).state ≠ .emitting := by
    obtain e | e := m.out <;> simp [inStore, e]
  have hactive : ∀ q, (t.reel q).isActive = (s.reel q).isActive := fun q => by
    unfold ReelRecord.isActive; rw [m.kind]
  have hstore : ∀ q, storeCount t q + flag (decide ((s.slot k).tag = some q)) = storeCount s q := fun q => by
    have := storeCount_change (s := s) (t := t) (k := k) (r := q) fun j hj => by
      obtain ⟨hs, ht, -⟩ := m.others j hj
      unfold holdsFrameOf; rw [hs, ht]
    simpa [holdsFrameOf, hin, hout.1, flag] using this
  refine ⟨fun j => ?_, fun f hf hp => ?_, fun j => ?_, ?_, fun j q hj hq => ?_, fun q => ⟨fun hq => ?_, fun ho hmax => ?_⟩⟩
  · by_cases e : j = k
    · subst e; simp [m.rx, m.emitting, hout]
    · obtain ⟨-, -, hf, he⟩ := m.others j e
      simp [m.rx, m.emitting, hf, he, e, hslots j]
  · obtain ⟨e, rest, hl, hc⟩ := hhead f (m.inFlight ▸ hf) hp
    refine ⟨e, rest.filter fun e => decide (e ≠ .frame k), ?_, hc⟩
    rw [m.list, hl, List.filter_cons_of_pos]
    cases e <;> simp_all [isControl]
  · rw [m.list, count_removeFrame]
    split
    · next e => subst e; simp [hout, flag]
    · next e => rw [(m.others j e).1]; exact hlist j
  · unfold State.oneActive; rw [hactive, hactive]; exact hone
  · have e : j ≠ k := fun e => hout.2.1 (e ▸ hj)
    obtain ⟨-, ht, hf, -⟩ := m.others j e
    rw [hactive]; exact hfill j q (hf.mp hj) (ht ▸ hq)
  · have := (hcons q).1 (by rwa [m.kind] at hq)
    have := hstore q
    omega
  · have hne : (s.reel q).state ≠ .free := by
      rw [occupied_iff, m.kind] at ho
      rw [Ne, free_iff]; exact ho
    have hbal := (hcons q).2 (by rwa [occupied_iff, ← m.kind q, ← occupied_iff]) (m.opened q ▸ hmax)
    have hgone := m.gone q hne (by rw [m.opened q] at hmax; unfold goneCount; omega)
    have := hstore q
    rw [m.opened]
    unfold goneCount at hgone
    omega

/-! ## Emission end -/

/-- The frame of slot `k` after its emission end, before the store count and the new head are judged (R47). -/
def frameEmitted (k : Fin 4) (s : State) : State :=
  let s1 := creditTo (s.slot k).tag (fun c => { c with emitted := credit32 c.emitted 1 }) (removeFrame k s)
  let s2 := updSlot k (fun x => { x with state := stateAfterEmission x }) (releaseKept k s1)
  { s2 with repair := none, store := { s2.store with emission := none } }

theorem endEmission_eq (k : Fin 4) (s : State) :
    endEmission k s = checkHead (match (s.slot k).tag with
      | some r => judgeStore r (frameEmitted k s)
      | none => frameEmitted k s) := rfl

section
variable (k : Fin 4) (s : State)

@[simp] theorem frameEmitted_frame : (frameEmitted k s).pending = s.pending ∧ (frameEmitted k s).npor = s.npor ∧
    (frameEmitted k s).link = s.link ∧ (frameEmitted k s).reg = s.reg ∧ (frameEmitted k s).xport = s.xport ∧
    (frameEmitted k s).defect = s.defect ∧ (frameEmitted k s).grade = s.grade ∧
    (frameEmitted k s).shelf = s.shelf ∧ (frameEmitted k s).svc = s.svc ∧
    (frameEmitted k s).reels.last = s.reels.last ∧ (frameEmitted k s).reels.waiting = s.reels.waiting ∧
    (frameEmitted k s).reels.refused = s.reels.refused ∧ (frameEmitted k s).repair = none ∧
    (frameEmitted k s).store.emission = none ∧ (frameEmitted k s).store.spliceSeen = s.store.spliceSeen ∧
    (frameEmitted k s).store.list = s.store.list.filter (fun e => decide (e ≠ .frame k)) := by
  simp [frameEmitted]

theorem frameEmitted_reel (q : Fin 2) : (frameEmitted k s).reel q =
    if (s.slot k).tag = some q ∧ (s.reel q).state ≠ .free then
      { s.reel q with counters := { (s.reel q).counters with emitted := credit32 (s.reel q).counters.emitted 1 } }
    else s.reel q :=
  creditTo_reel (s.slot k).tag (fun c => { c with emitted := credit32 c.emitted 1 }) (removeFrame k s) q

/-- The emitted frame's slot is KEPT or FREE, its KEPT predecessor FREE (R47). -/
theorem frameEmitted_slot (h : (s.slot k).state = .emitting) (j : Fin 4) : (frameEmitted k s).slot j =
    if j = k then { s.slot k with state := stateAfterEmission (s.slot k) }
    else if (s.slot j).state = .kept ∧ (s.slot j).link = .ready k then { s.slot j with state := .free }
    else s.slot j := by
  simp [frameEmitted, h]

theorem stateAfterEmission_cases (x : Slot) : stateAfterEmission x = .kept ∨ stateAfterEmission x = .free := by
  unfold stateAfterEmission
  split
  · exact .inl rfl
  · exact .inr rfl

end

theorem frameEmitted_leaves {k : Fin 4} {s : State} (h : s.framesAccounted) (hk : emittingSlot s = some k) :
    LeavesStore k s (frameEmitted k s) := by
  obtain ⟨hslots, -⟩ := h
  have he : (s.slot k).state = .emitting := (hslots k).2.mpr hk
  have hrx : s.link.rx ≠ .filling k := fun hf => by simp [(hslots k).1.mpr hf] at he
  refine { out := ?_, others := fun j hj => ?_, list := by simp, rx := fun j => ?_, emitting := fun j => ?_,
           inFlight := by simp, kind := fun q => ?_, opened := fun q => ?_, gone := fun q hq hlt => ?_ }
  · rw [frameEmitted_slot k s he, if_pos rfl]; exact (stateAfterEmission_cases _).symm
  · rw [frameEmitted_slot k s he, if_neg hj]
    split
    · next hkept => simp [inStore, hkept.1]
    · exact ⟨rfl, rfl, .rfl, .rfl⟩
  · simp only [frameEmitted_frame]
    exact ⟨fun hj => ⟨fun e => hrx (e ▸ hj), hj⟩, fun hj => hj.2⟩
  · simp [emittingSlot] at hk ⊢
    grind
  · rw [frameEmitted_reel]; split <;> rfl
  · rw [frameEmitted_reel]; split <;> rfl
  · rw [frameEmitted_reel]
    split
    · next hc => 
      simp only [goneCount, hc.1, flag, decide_true, if_true] at hlt ⊢
      rw [credit32, satAdd_eq (by omega)]
      omega
    · next hc =>
      have ht : (s.slot k).tag ≠ some q := fun e => hc ⟨e, hq⟩
      simp [flag, ht]

/-- Every slot whose emission ends stands in the store. -/
theorem inStore_of_emittingSlot {s : State} {k : Fin 4} (h : s.framesAccounted) (hk : emittingSlot s = some k) :
    inStore (s.slot k) = true := inStore_of_emitting ((h.1 k).2.mpr hk)

theorem frameEmitted_regions (k : Fin 4) (s : State) (j : Fin 4) :
    ((frameEmitted k s).slot j).regions = (s.slot j).regions := by
  simp only [frameEmitted, slot_mk, store_slots_get, updSlot_slot, releaseKept_slot, creditTo_slot, removeFrame_slot]
  split
  · next e => subst e; split <;> rfl
  · split <;> rfl

/-- An entry that leaves the list takes no limit with it (R43). -/
theorem controls_filter_le {l : List Entry} {p : Entry → Bool} {n : Nat} (h : (l.filter isControl).length ≤ n) :
    ((l.filter p).filter isControl).length ≤ n :=
  (List.Sublist.length_le (List.Sublist.filter _ List.filter_sublist)).trans h

theorem frameEmitted_kept {k : Fin 4} {s : State} (hk : emittingSlot s = some k) : Kept s (frameEmitted k s) where
  lists := by
    intro ⟨hp, ht, hl, hr⟩
    refine ⟨by simpa using hp, by simpa using ht, ?_, fun j => by rw [frameEmitted_regions]; exact hr j⟩
    simp only [frameEmitted_frame]
    exact controls_filter_le hl
  waiting h := h.of_eq (hk := fun q => by rw [frameEmitted_reel]; split <;> rfl)
  frames _ h := (frameEmitted_leaves h hk).framesAccounted h (inStore_of_emittingSlot h hk)

theorem endEmission_kept {k : Fin 4} {s : State} (hk : emittingSlot s = some k) : Kept s (endEmission k s) := by
  rw [endEmission_eq]
  refine .trans ?_ (checkHead_kept _)
  split
  · exact (frameEmitted_kept hk).trans (judgeStore_kept _ _)
  · exact frameEmitted_kept hk

/-! ## Discards -/

/-! The receive state is set at the end of the event, but the frame it named leaves its slot before: each operation between
the two reads nothing of the receive state. -/

section
variable (x : RxState) (s : State)

theorem setRx_creditTo (tag : Option (Fin 2)) (f : Counters → Counters) :
    setRx x (creditTo tag f s) = creditTo tag f (setRx x s) := by
  unfold creditTo
  split
  · rfl
  · rw [setRx_reel]; split <;> rfl

theorem setRx_takeTrim (tag : Option (Fin 2)) : setRx x (takeTrim tag s) = takeTrim tag (setRx x s) := by
  unfold takeTrim
  rw [setRx_grade]
  split
  · exact setRx_creditTo _ _ _ _
  · rfl

theorem setRx_planFrame (k : Fin 4) (r : Fin 2) : setRx x (planFrame k r s) = planFrame k r (setRx x s) := by
  unfold planFrame
  dsimp only
  rw [setRx_takeTrim, setRx_creditTo]
  rfl

theorem setRx_startEmission (k : Fin 4) : setRx x (startEmission k s) = startEmission k (setRx x s) := by
  unfold startEmission
  dsimp only
  rw [setRx_slot]
  split
  · rw [← setRx_planFrame]; rfl
  · rfl

theorem setRx_checkHead : setRx x (checkHead s) = checkHead (setRx x s) := by
  unfold checkHead
  rw [setRx_store]
  split
  · rw [apply_ite (setRx x), setRx_startEmission]; rfl
  · rfl

theorem setRx_takeNotice : setRx x (takeNotice s) = takeNotice (setRx x s) := by
  unfold takeNotice
  rw [setRx_reels]
  split
  · rfl
  · rw [apply_ite (setRx x)]; rfl

theorem setRx_enterWaiting (r : Fin 2) : setRx x (enterWaiting r s) = enterWaiting r (setRx x s) := by
  unfold enterWaiting
  dsimp only
  rw [setRx_reel, setRx_shelf]
  split <;> rfl

theorem setRx_judgeStore (r : Fin 2) : setRx x (judgeStore r s) = judgeStore r (setRx x s) := by
  unfold judgeStore
  rw [apply_ite (setRx x), disposeReel_eq, setRx_takeNotice, setRx_enterWaiting]
  rfl

end

/-- The treated frame of slot `k` discarded, before its reel's store count and the head are judged (R14). -/
def frameDiscarded (k : Fin 4) (r : Fin 2) (s : State) : State :=
  creditTo (some r) (fun c => { c with discarded := credit32 c.discarded 1 })
    (raiseCause .linkFault (updSlot k clearDefects (discardFrame k s)))

theorem linkFaultDiscard_eq (k : Fin 4) (r : Fin 2) (s : State) :
    linkFaultDiscard k r s = checkHead (judgeStore r (regDiscard r (frameDiscarded k r s))) := rfl

section
variable (k : Fin 4) (r : Fin 2) (s : State)

@[simp] theorem frameDiscarded_frame : (frameDiscarded k r s).pending = s.pending ∧
    (frameDiscarded k r s).npor = s.npor ∧ (frameDiscarded k r s).link = s.link ∧
    (frameDiscarded k r s).reg = s.reg ∧ (frameDiscarded k r s).xport = s.xport ∧
    (frameDiscarded k r s).defect = s.defect ∧ (frameDiscarded k r s).repair = s.repair ∧
    (frameDiscarded k r s).grade = s.grade ∧ (frameDiscarded k r s).shelf = s.shelf ∧
    (frameDiscarded k r s).svc = { s.svc with causes := { s.svc.causes with linkFault := true } } ∧
    (frameDiscarded k r s).reels.last = s.reels.last ∧ (frameDiscarded k r s).reels.waiting = s.reels.waiting ∧
    (frameDiscarded k r s).reels.refused = s.reels.refused ∧
    (frameDiscarded k r s).store.emission = s.store.emission ∧
    (frameDiscarded k r s).store.spliceSeen = s.store.spliceSeen ∧
    (frameDiscarded k r s).store.list = s.store.list.filter (fun e => decide (e ≠ .frame k)) := by
  simp [frameDiscarded]
  rfl

theorem frameDiscarded_reel (q : Fin 2) : (frameDiscarded k r s).reel q =
    if q = r ∧ (s.reel r).state ≠ .free then
      { s.reel q with counters := { (s.reel q).counters with discarded := credit32 (s.reel q).counters.discarded 1 } }
    else s.reel q := by
  unfold frameDiscarded
  rw [creditTo_reel]
  by_cases e : q = r
  · subst e; simp
  · simp [e, Ne.symm e]

/-- A discarded frame's slot is FREE with its defect state cleared, and a link that waited for it is NONE (R14, R44). -/
theorem frameDiscarded_slot (j : Fin 4) : (frameDiscarded k r s).slot j =
    if j = k then { s.slot k with state := .free, defectOverflow := false, regions := [], regionsLost := 0 }
    else if (s.slot j).state ≠ .free ∧ (s.slot j).link = .pending k then { s.slot j with link := .none }
    else s.slot j := by
  simp only [frameDiscarded, creditTo_slot, raiseCause_slot, updSlot_slot, discardFrame_slot]
  split
  · next e => subst e; simp [clearDefects]
  · rfl

theorem discardFrame_regions (j : Fin 4) : ((discardFrame k s).slot j).regions = (s.slot j).regions := by
  rw [discardFrame_slot]
  split
  · next e => subst e; rfl
  · split <;> rfl

end

/-- The open frame's slot: FILLING, in the store, and no emission's (R6). -/
theorem filling_of_rx {s : State} {k : Fin 4} (h : s.framesAccounted) (hk : s.link.rx = .filling k) :
    (s.slot k).state = .filling ∧ emittingSlot s ≠ some k := by
  obtain ⟨hslots, -⟩ := h
  have hf := (hslots k).1.mpr hk
  exact ⟨hf, fun he => by simp [(hslots k).2.mpr he] at hf⟩

/-- What the two discards have in common: the open frame's slot is freed and the receive state names no slot (R14). -/
theorem discard_leaves {k : Fin 4} {x : RxState} {s t : State} (h : s.framesAccounted) (hk : s.link.rx = .filling k)
    (hx : ∀ j, x ≠ .filling j) (hout : (t.slot k).state = .free)
    (hslot : ∀ j, j ≠ k → (t.slot j).state = (s.slot j).state ∧ (t.slot j).tag = (s.slot j).tag)
    (hlist : t.store.list = s.store.list.filter fun e => decide (e ≠ .frame k)) (hrx : t.link.rx = x)
    (hem : t.store.emission = s.store.emission) (hfl : t.link.inFlight = s.link.inFlight)
    (hkind : ∀ q, (t.reel q).state = (s.reel q).state)
    (hop : ∀ q, (t.reel q).counters.opened = (s.reel q).counters.opened)
    (hgone : ∀ q, (s.reel q).state ≠ .free → goneCount (s.reel q).counters < Config.counterMax →
      goneCount (t.reel q).counters = goneCount (s.reel q).counters + flag (decide ((s.slot k).tag = some q))) :
    LeavesStore k s t := by
  obtain ⟨-, hne⟩ := filling_of_rx h hk
  have hem' : emittingSlot t = emittingSlot s := by unfold emittingSlot; rw [hem]
  refine ⟨.inl hout, fun j hj => ?_, hlist, fun j => ?_, fun j => ?_, hfl, hkind, hop, hgone⟩
  · obtain ⟨hs, ht⟩ := hslot j hj
    rw [hs]
    exact ⟨inStore_congr hs, ht, .rfl, .rfl⟩
  · rw [hrx, hk]
    exact ⟨fun e => absurd e (hx j), fun ⟨hj, e⟩ => absurd (RxState.filling.inj e).symm hj⟩
  · rw [hem']
    exact ⟨fun e => ⟨fun hj => hne (hj ▸ e), e⟩, fun e => e.2⟩

theorem frameDiscarded_kept {k : Fin 4} {r : Fin 2} {x : RxState} {s : State} (hk : s.link.rx = .filling k)
    (ht : (s.slot k).tag = some r) (hx : ∀ j, x ≠ .filling j) : Kept s (setRx x (frameDiscarded k r s)) where
  lists := by
    intro ⟨hp, htr, hl, hr⟩
    refine ⟨by simpa using hp, by simpa using htr, ?_, fun j => ?_⟩
    · simp only [setRx_store, frameDiscarded_frame]
      exact controls_filter_le hl
    · rw [setRx_slot, frameDiscarded_slot]
      split
      · exact Nat.zero_le _
      · split <;> exact hr j
  waiting h := h.of_eq (hk := fun q => by rw [setRx_reel, frameDiscarded_reel]; split <;> rfl)
  frames _ h := by
    obtain ⟨hf, -⟩ := filling_of_rx h hk
    refine (discard_leaves (x := x) h hk hx ?_ (fun j hj => ?_) (by simp) (by simp) (by simp) (by simp) (fun q => ?_)
      (fun q => ?_) fun q hq hlt => ?_).framesAccounted h (inStore_of_filling hf)
    · rw [setRx_slot, frameDiscarded_slot, if_pos rfl]
    · rw [setRx_slot, frameDiscarded_slot, if_neg hj]; split <;> exact ⟨rfl, rfl⟩
    · rw [setRx_reel, frameDiscarded_reel]; split <;> rfl
    · rw [setRx_reel, frameDiscarded_reel]; split <;> rfl
    · rw [setRx_reel, frameDiscarded_reel, ht]
      by_cases e : r = q
      · subst e
        simp only [goneCount, hq, ne_eq, not_false_eq_true, and_self, if_true, flag, decide_true] at hlt ⊢
        rw [credit32, satAdd_eq (by omega)]
        omega
      · simp [e, Ne.symm e, flag]

theorem discardFrame_kept {k : Fin 4} {x : RxState} {s : State} (hk : s.link.rx = .filling k)
    (ht : (s.slot k).tag = none) (hx : ∀ j, x ≠ .filling j) : Kept s (setRx x (discardFrame k s)) where
  lists := by
    intro ⟨hp, htr, hl, hr⟩
    refine ⟨by simpa using hp, by simpa using htr, ?_, fun j => by rw [setRx_slot, discardFrame_regions]; exact hr j⟩
    simp only [setRx_store, discardFrame_list]
    exact controls_filter_le hl
  frames _ h := by
    obtain ⟨hf, -⟩ := filling_of_rx h hk
    refine (discard_leaves (x := x) h hk hx ?_ (fun j hj => ?_) (by simp) (by simp) (by simp) (by simp)
      (fun q => by simp) (fun q => by simp) fun q hq hlt => by simp [ht, flag]).framesAccounted h
      (inStore_of_filling hf)
    · rw [setRx_slot, discardFrame_slot, if_pos rfl]
    · rw [setRx_slot, discardFrame_slot, if_neg hj]; split <;> exact ⟨rfl, rfl⟩

@[simp] theorem regDiscard_table (r : Fin 2) (s : State) : (regDiscard r s).reg.table = s.reg.table := by
  unfold regDiscard dropReference
  dsimp only
  split <;> rfl

theorem regDiscard_kept (r : Fin 2) (s : State) : Kept s (regDiscard r s) where

theorem linkFaultDiscard_kept {k : Fin 4} {r : Fin 2} {x : RxState} {s : State} (hk : s.link.rx = .filling k)
    (ht : (s.slot k).tag = some r) (hx : ∀ j, x ≠ .filling j) : Kept s (setRx x (linkFaultDiscard k r s)) := by
  rw [linkFaultDiscard_eq, setRx_checkHead, setRx_judgeStore]
  exact (((frameDiscarded_kept hk ht hx).trans (regDiscard_kept r _)).trans (judgeStore_kept r _)).trans
    (checkHead_kept _)

/-- An open frame is cut short by its discard; the receive state moves with it (R13). -/
theorem cutShort_cases (s : State) :
    (s.link.rx = .between ∧ cutShort s = s) ∨ (s.link.rx = .ignoring ∧ cutShort s = setRx .between s) ∨
    (∃ k r, s.link.rx = .filling k ∧ (s.slot k).tag = some r ∧
      cutShort s = setRx .between (linkFaultDiscard k r s)) ∨
    (∃ k, s.link.rx = .filling k ∧ (s.slot k).tag = none ∧
      cutShort s = setRx .between (checkHead (raiseCause .linkFault (discardFrame k s)))) := by
  unfold cutShort
  split
  · next h => exact .inl ⟨h, rfl⟩
  · next h => exact .inr (.inl ⟨h, rfl⟩)
  · next k h =>
    split
    · next r ht => exact .inr (.inr (.inl ⟨k, r, h, ht, rfl⟩))
    · next ht => exact .inr (.inr (.inr ⟨k, h, ht, rfl⟩))

theorem cutShort_kept (s : State) : Kept s (cutShort s) := by
  obtain ⟨-, e⟩ | ⟨h, e⟩ | ⟨k, r, h, ht, e⟩ | ⟨k, h, ht, e⟩ := cutShort_cases s <;> rw [e]
  · exact .refl s
  · exact setRx_kept (by simp) (by simp [h])
  · exact linkFaultDiscard_kept h ht (by simp)
  · rw [setRx_checkHead]
    exact ((discardFrame_kept h ht (by simp)).trans (raiseCause_kept .linkFault _)).trans (checkHead_kept _)

/-! ## Control cells and reels -/

theorem appendControl_kept {e : Entry} (he : isControl e = true) (s : State) : Kept s (appendControl e s) := by
  obtain ⟨hlt, h⟩ | ⟨-, h⟩ := appendControl_cases e s <;> rw [h]
  · exact {
      lists := by
        rintro ⟨hp, ht, -, hr⟩
        refine ⟨hp, ht, ?_, hr⟩
        show ((s.store.list ++ [e]).filter isControl).length ≤ _
        simp [List.filter_append, he]
        exact hlt
      frames := by
        intro _ ⟨hslots, hhead, hlist, hrest⟩
        refine ⟨hslots, fun f hf hp => ?_, fun k => ?_, hrest⟩
        · obtain ⟨c, rest, hl, hc⟩ := hhead f hf hp
          exact ⟨c, rest ++ [e], by simp [hl], hc⟩
        · show (s.store.list ++ [e]).count (.frame k) = _
          have hne : e ≠ .frame k := fun h => by simp [h, isControl] at he
          rw [List.count_append, List.count_singleton, if_neg (by simpa using hne)]
          exact hlist k }
  · exact raiseCause_kept _ s

theorem clearTracks_kept (tag : Option (Fin 2)) (s : State) : Kept s (clearTracks tag s) := by
  have hclear : Kept s { s with defect := { s.defect with tracks := [] } } := {
    lists := fun ⟨hp, _, hl, hr⟩ => ⟨hp, Nat.zero_le _, hl, hr⟩
    tracks := fun _ => ⟨Nat.zero_le _, List.Pairwise.nil⟩ }
  exact hclear.trans (creditTo_kept tag
    (f := fun c => { c with scratches := credit32 c.scratches (confirmedCount s.defect.tracks) }) _
    fun _ => ⟨rfl, rfl, rfl, rfl⟩)

/-- A record write that keeps the record's kind and its frame counters keeps every invariant. -/
theorem updReel_kept {r : Fin 2} {f : ReelRecord → ReelRecord} {s : State}
    (hk : stateCode (f (s.reel r)).state = stateCode (s.reel r).state)
    (hc : (f (s.reel r)).counters = (s.reel r).counters) : Kept s (updReel r f s) where
  waiting h := h.of_eq (hk := fun q => by
    rw [updReel_reel]; split
    · next e => subst e; exact hk
    · rfl)
  frames _ h := h.of_books {
    kind := fun q => by
      rw [updReel_reel]; split
      · next e => subst e; exact hk
      · rfl
    ledger := fun q => by
      rw [updReel_reel]; split
      · next e => subst e; rw [hc]; exact ⟨rfl, rfl, rfl, rfl⟩
      · exact ⟨rfl, rfl, rfl, rfl⟩ }

theorem stateCode_of_collecting {r : ReelRecord} (h : collecting r = true) : stateCode r.state = 1 := by
  unfold collecting at h
  unfold stateCode
  split at h <;> simp_all

theorem settleAcq_kind (acqMin unshrunk sum count : Nat) (r : ReelRecord) :
    stateCode (settleAcq acqMin unshrunk sum count r).state = 1 ∧
    (settleAcq acqMin unshrunk sum count r).counters = r.counters := by
  unfold settleAcq
  split <;> exact ⟨rfl, rfl⟩

theorem settleAcq_kept {r : Fin 2} {s : State} (h : collecting (s.reel r) = true) (acqMin unshrunk sum count : Nat) :
    Kept s (updReel r (settleAcq acqMin unshrunk sum count) s) :=
  updReel_kept ((settleAcq_kind ..).1.trans (stateCode_of_collecting h).symm) (settleAcq_kind ..).2

theorem closeTest_kept (r : Fin 2) (s : State) : Kept s (closeTest r s) := by
  unfold closeTest
  split
  · next hc =>
    split
    · dsimp only
      split
      · exact settleAcq_kept hc _ _ _ _
      · exact (settleAcq_kept hc _ _ _ _).trans (raiseCause_kept _ _)
    · refine .trans (updReel_kept ?_ rfl) (raiseCause_kept _ _)
      exact (stateCode_of_collecting hc).symm
  · exact .refl s

/-! ## The records found by their state -/

theorem mem_recIdx (r : Fin 2) : r ∈ recIdx := by fin_cases r <;> simp [recIdx]
theorem mem_slotIdx (k : Fin 4) : k ∈ slotIdx := by fin_cases k <;> simp [slotIdx]

theorem isActive_of_activeRec {s : State} {r : Fin 2} (h : activeRec s = some r) : (s.reel r).isActive = true :=
  List.find?_some (p := fun r => (s.reel r).isActive) h

theorem activeRec_eq_none {s : State} : activeRec s = none ↔ ∀ r, (s.reel r).isActive = false := by
  unfold activeRec
  rw [List.find?_eq_none]
  exact ⟨fun h r => by simpa using h r (mem_recIdx r), fun h r _ => by simp [h r]⟩

theorem free_of_freeRec {s : State} {r : Fin 2} (h : freeRec s = some r) : (s.reel r).state = .free := by
  simpa using List.find?_some (p := fun r => decide ((s.reel r).state = .free)) h

theorem freeRec_eq_none {s : State} : freeRec s = none ↔ ∀ r, (s.reel r).state ≠ .free := by
  unfold freeRec
  rw [List.find?_eq_none]
  exact ⟨fun h r => by simpa using h r (mem_recIdx r), fun h r _ => by simp [h r]⟩

theorem free_of_freeSlotIdx {s : State} {k : Fin 4} (h : freeSlotIdx s = some k) : (s.slot k).state = .free := by
  simpa using List.find?_some (p := fun k => decide ((s.slot k).state = .free)) h

theorem freeSlotIdx_eq_none {s : State} : freeSlotIdx s = none ↔ ∀ k, (s.slot k).state ≠ .free := by
  unfold freeSlotIdx
  rw [List.find?_eq_none]
  exact ⟨fun h k => by simpa using h k (mem_slotIdx k), fun h k _ => by simp [h k]⟩

theorem stateCode_of_isActive {r : ReelRecord} (h : r.isActive = true) : stateCode r.state = 1 := (isActive_iff r).mp h

/-- With one record ACTIVE, no other is (R21). -/
theorem not_isActive_of_ne {s : State} (h : s.oneActive) {r q : Fin 2} (hr : (s.reel r).isActive = true) (hq : q ≠ r) :
    (s.reel q).isActive = false := by
  unfold State.oneActive at h
  fin_cases r <;> fin_cases q <;> simp_all

/-! ## A reel's end -/

theorem takeNotice_isActive {s : State} {q : Fin 2} (h : ((takeNotice s).reel q).isActive = true) :
    (s.reel q).isActive = true := by
  obtain e | ⟨r, rest, -, -, -, -, -, -, hreel⟩ := takeNotice_cases s
  · rwa [e] at h
  · rw [hreel] at h
    split at h
    · simp [ReelRecord.isActive] at h
    · exact h

/-- The store count judged, no record becomes ACTIVE (R28). -/
theorem judgeStore_isActive {r q : Fin 2} {s : State} (h : ((judgeStore r s).reel q).isActive = true) :
    (s.reel q).isActive = true := by
  obtain ⟨-, -, e⟩ | ⟨-, e⟩ := judgeStore_cases r s <;> rw [e] at h
  · rw [disposeReel_eq] at h
    have := takeNotice_isActive h
    rw [enterWaiting_reel] at this
    split at this
    · simp [ReelRecord.isActive] at this
    · exact this
  · exact h

@[simp] theorem clearTracks_reports (tag : Option (Fin 2)) (s : State) :
    (clearTracks tag s).reels.last = s.reels.last ∧ (clearTracks tag s).reels.waiting = s.reels.waiting ∧
    (clearTracks tag s).reels.refused = s.reels.refused := by simp [clearTracks]

theorem clearTracks_state (tag : Option (Fin 2)) (s : State) (q : Fin 2) :
    ((clearTracks tag s).reel q).state = (s.reel q).state := creditTo_state ..

@[simp] theorem closeTest_reports (r : Fin 2) (s : State) :
    (closeTest r s).reels.last = s.reels.last ∧ (closeTest r s).reels.waiting = s.reels.waiting ∧
    (closeTest r s).reels.refused = s.reels.refused := by
  unfold closeTest
  (repeat' split) <;> exact ⟨rfl, rfl, rfl⟩

theorem closeTest_kind (r q : Fin 2) (s : State) :
    stateCode ((closeTest r s).reel q).state = stateCode (s.reel q).state := by
  unfold closeTest
  split
  · next hc =>
    have h1 := stateCode_of_collecting hc
    split
    · dsimp only
      split
      · rw [updReel_reel]
        split
        · next e => subst e; rw [(settleAcq_kind ..).1, h1]
        · rfl
      · rw [raiseCause_reel, updReel_reel]
        split
        · next e => subst e; rw [(settleAcq_kind ..).1, h1]
        · rfl
    · rw [raiseCause_reel, updReel_reel]
      split
      · next e => subst e; exact h1.symm
      · rfl
  · rfl

/-- The ACTIVE record drained while no frame is open: it keeps its frames, and no record is ACTIVE after it (R27). -/
theorem drain_kept {r : Fin 2} {f : ReelRecord → ReelRecord} {s : State} (hr : (s.reel r).isActive = true)
    (hrx : ∀ k, s.link.rx ≠ .filling k) (hf : (f (s.reel r)).state = .draining)
    (hc : (f (s.reel r)).counters = (s.reel r).counters) : Kept s (updReel r f s) where
  waiting := by
    rintro ⟨hnd, hiff, hfree⟩
    refine ⟨hnd, fun q => ?_, hfree⟩
    rw [updReel_waiting, hiff, updReel_reel]
    split
    · next e => 
      subst e
      rw [hf, disposing_iff, stateCode_of_isActive hr]
      simp
    · rfl
  frames := by
    intro _ h
    obtain ⟨hslots, -, -, hone, -, hcons⟩ := id h
    have hnone : ∀ k, (s.slot k).state ≠ .filling := fun k e => hrx k ((hslots k).1.mp e)
    have hactive : ∀ q, ((updReel r f s).reel q).isActive = true → (s.reel q).isActive = true := fun q => by
      rw [updReel_reel]
      split
      · next e => simp [ReelRecord.isActive, hf]
      · exact id
    refine h.of_kinds {} (fun ⟨h0, h1⟩ => hone ⟨hactive 0 h0, hactive 1 h1⟩) (fun k q hk => absurd hk (hnone k))
      (fun q => ?_) (fun q => ?_) (fun q => ?_)
    · rw [updReel_reel]
      split
      · next e => subst e; rw [occupied_iff, occupied_iff, stateCode_of_isActive hr]; simp
      · exact id
    · rw [updReel_reel]
      split
      · next e => simp [hf]
      · exact (hcons q).1
    · rw [updReel_reel]
      split
      · next e => subst e; rw [hc]; exact ⟨rfl, rfl, rfl, rfl⟩
      · exact ⟨rfl, rfl, rfl, rfl⟩

theorem tearMem_kept (m : Option TearMemory) (s : State) :
    Kept s { s with defect := { s.defect with tearMem := m } } where

/-- The reel drained, before its store count is judged (R27). -/
def reelDrained (r : Fin 2) (implicit : Bool) (s : State) : State :=
  let s1 := clearTracks (some r) (closeTest r s)
  let s2 := { s1 with defect := { s1.defect with tearMem := none } }
  updReel r (fun x => { x with state := .draining, closeMissing := x.closeMissing || implicit }) s2

theorem closeReel_eq (r : Fin 2) (implicit : Bool) (s : State) :
    closeReel r implicit s = judgeStore r (reelDrained r implicit s) := rfl

theorem reelDrained_kept {r : Fin 2} (implicit : Bool) {s : State} (hr : (s.reel r).isActive = true)
    (hrx : ∀ k, s.link.rx ≠ .filling k) : Kept s (reelDrained r implicit s) := by
  have htracks : Kept s (clearTracks (some r) (closeTest r s)) := (closeTest_kept r s).trans (clearTracks_kept _ _)
  unfold reelDrained
  dsimp only
  refine .trans (htracks.trans (tearMem_kept none _)) (drain_kept ?_ (by simpa using hrx) rfl rfl)
  rw [isActive_iff] at hr ⊢
  show stateCode ((clearTracks (some r) (closeTest r s)).reel r).state = 1
  rw [clearTracks_state, closeTest_kind, hr]

theorem closeReel_kept {r : Fin 2} (implicit : Bool) {s : State} (hr : (s.reel r).isActive = true)
    (hrx : ∀ k, s.link.rx ≠ .filling k) : Kept s (closeReel r implicit s) :=
  (reelDrained_kept implicit hr hrx).trans (judgeStore_kept r _)

/-- After the ACTIVE reel's end no record is ACTIVE (R25, R27). -/
theorem closeReel_noActive {r : Fin 2} (implicit : Bool) {s : State} (hone : s.oneActive)
    (hr : (s.reel r).isActive = true) (q : Fin 2) : ((closeReel r implicit s).reel q).isActive = false := by
  refine Bool.eq_false_iff.mpr fun h => ?_
  rw [closeReel_eq] at h
  have h := judgeStore_isActive h
  unfold reelDrained at h
  rw [updReel_reel] at h
  split at h
  · simp [ReelRecord.isActive] at h
  · next e =>
    rw [isActive_iff] at h
    change stateCode ((clearTracks (some r) (closeTest r s)).reel q).state = 1 at h
    rw [clearTracks_state, closeTest_kind, ← isActive_iff, not_isActive_of_ne hone hr e] at h
    exact absurd h (by decide)

/-! ## A reel's opening -/

theorem slower_within (a b : SpeedClass) : rank b ≤ rank (slower a b) := by rw [rank_slower]; exact le_max_right _ _

section
variable (r : Fin 2) (h : ReelHeader) (keepFailed : Bool) (s : State)

@[simp] theorem openReel_reports : (openReel r h keepFailed s).reels.last = s.reels.last ∧
    (openReel r h keepFailed s).reels.waiting = s.reels.waiting ∧
    (openReel r h keepFailed s).reels.refused = s.reels.refused := ⟨rfl, rfl, rfl⟩

@[simp] theorem openReel_svc : (openReel r h keepFailed s).svc =
    { s.svc with causes := { s.svc.causes with acqFailed := s.svc.causes.acqFailed && keepFailed } } := rfl

@[simp] theorem openReel_reg : (openReel r h keepFailed s).reg = regOpen s.reg := rfl

@[simp] theorem openReel_xport : (openReel r h keepFailed s).xport = transportOpen h.step s.xport := rfl

@[simp] theorem openReel_defect :
    (openReel r h keepFailed s).defect = { s.defect with tracks := [], tearMem := none } := rfl

@[simp] theorem openReel_grade :
    (openReel r h keepFailed s).grade = { s.grade with fade := setDirect s.grade.fade } := rfl

@[simp] theorem openReel_slot (k : Fin 4) : (openReel r h keepFailed s).slot k = s.slot k := rfl

@[simp] theorem openReel_reel (q : Fin 2) :
    (openReel r h keepFailed s).reel q = if q = r then openedRecord h s.grade else s.reel q :=
  updReel_reel r q (fun _ => openedRecord h s.grade) s

end

@[simp] theorem regOpen_table (u : RegUnit) : (regOpen u).table = u.table := rfl

@[simp] theorem transportIdle_table (x : Transport) : (transportIdle x).table = x.table := rfl

@[simp] theorem transportOpen_table (step : Nat) (x : Transport) : (transportOpen step x).table = x.table := rfl

theorem openReel_limits {r : Fin 2} {s : State} (h : ReelHeader) (keepFailed : Bool) (hr : (s.reel r).state = .free) :
    LimitsKept s (openReel r h keepFailed s) where
  ceiling _ := slower_within .s2 s.xport.ceiling
  lists := fun ⟨hp, _, hl, hreg⟩ => ⟨hp, Nat.zero_le _, hl, hreg⟩
  waiting := by
    rintro ⟨hnd, hiff, hfree⟩
    refine ⟨hnd, fun q => ?_, hfree⟩
    rw [openReel_reel, (openReel_reports r h keepFailed s).2.1, hiff]
    split
    · next e => subst e; rw [hr]; simp [openedRecord]
    · rfl
  tracks _ := ⟨Nat.zero_le _, List.Pairwise.nil⟩

/-- A record opened while none is ACTIVE begins with no frame opened and none in the store (R24). -/
theorem openReel_frames {r : Fin 2} {s : State} (h : ReelHeader) (keepFailed : Bool) (hr : (s.reel r).state = .free)
    (hna : ∀ q, (s.reel q).isActive = false) (hf : s.framesAccounted) :
    (openReel r h keepFailed s).framesAccounted := by
  obtain ⟨-, -, -, -, hfill, hcons⟩ := id hf
  refine hf.of_records {} ?_ (fun k q hk hq => absurd (hfill k q hk hq) (by simp [hna])) (fun q => ?_)
  · unfold State.oneActive
    rw [openReel_reel, openReel_reel]
    fin_cases r <;> simp [hna]
  · rw [openReel_reel]
    split
    · next e =>
      subst e
      have hz := (hcons q).1 (.inl hr)
      refine ⟨fun _ => hz, fun _ _ => ?_⟩
      rw [hz]; rfl
    · exact hcons q

theorem openOrRefuse_limits {s : State} (h : ReelHeader) (ended keepFailed : Bool) :
    LimitsKept s (openOrRefuse h ended keepFailed s) := by
  obtain ⟨r, hr, e⟩ | ⟨-, e⟩ := openOrRefuse_cases h ended keepFailed s <;> rw [e]
  · exact openReel_limits h keepFailed (free_of_freeRec hr)
  · exact {
      ceiling := fun hc => by cases ended; exacts [hc, le_rfl]
      counters := fun ⟨he, hr, hs, hf⟩ => ⟨he, satAdd_le 1 hr, hs, hf⟩
      tables := fun ht => ht.of_eq (hx := by cases ended <;> rfl) }

theorem openOrRefuse_frames {s : State} (h : ReelHeader) (ended keepFailed : Bool)
    (hna : ∀ q, (s.reel q).isActive = false) (hf : s.framesAccounted) :
    (openOrRefuse h ended keepFailed s).framesAccounted := by
  obtain ⟨r, hr, e⟩ | ⟨-, e⟩ := openOrRefuse_cases h ended keepFailed s <;> rw [e]
  · exact openReel_frames h keepFailed (free_of_freeRec hr) hna hf
  · exact hf.of_books {}

theorem State.framesAccounted.oneActive {s : State} (h : s.framesAccounted) : s.oneActive := h.2.2.2.1

theorem takeReelOpen_kept {s : State} (h : ReelHeader) (hrx : ∀ k, s.link.rx ≠ .filling k) :
    Kept s (takeReelOpen h s) := by
  unfold takeReelOpen
  split
  · next r hr =>
    have ha := isActive_of_activeRec hr
    have hclosed := closeReel_kept true ha hrx
    exact {
      toLimitsKept := hclosed.toLimitsKept.trans (openOrRefuse_limits h true _)
      frames := fun hw hf => openOrRefuse_frames h true _ (closeReel_noActive true hf.oneActive ha) (hclosed.frames hw hf) }
  · next hr => exact ⟨openOrRefuse_limits h false false, fun _ => openOrRefuse_frames h false false (activeRec_eq_none.mp hr)⟩

theorem takeReelClose_kept {s : State} (hrx : ∀ k, s.link.rx ≠ .filling k) : Kept s (takeReelClose s) := by
  unfold takeReelClose
  split
  · next r hr =>
    have hidle : ∀ u : State, Kept u { u with xport := transportIdle u.xport } := fun u => { ceiling := fun _ => le_rfl }
    exact (closeReel_kept false (isActive_of_activeRec hr) hrx).trans (hidle _)
  · exact .refl s

@[simp] theorem dropReference_table (u : RegUnit) : (dropReference u).table = u.table := rfl

theorem takeSplice_kept (s : State) : Kept s (takeSplice s) := by
  unfold takeSplice
  dsimp only
  have hlast : ∀ u : State, Kept u { u with
      store := { u.store with spliceSeen := true }, grade := { u.grade with fade := setDirect u.grade.fade } } :=
    fun u => {}
  have hdrop : ∀ u : State, Kept u { u with reg := dropReference u.reg } := fun u => {}
  refine .trans ?_ (hlast _)
  split
  · exact ((creditTo_kept _ (f := fun c => { c with splices := credit32 c.splices 1 }) s fun _ =>
      ⟨rfl, rfl, rfl, rfl⟩).trans (clearTracks_kept _ _)).trans (hdrop _)
  · exact .refl s

/-- A control cell keeps every invariant where its units' own work does with no frame open (R10, R13). -/
theorem controlCell_kept {e : Entry} (he : isControl e = true) {work : State → State}
    (hw : ∀ {u : State}, (∀ k, u.link.rx ≠ .filling k) → Kept u (work u)) (s : State) : Kept s (controlCell e work s) := by
  have hcut : Kept s (settleLinks (fun _ => .none) (cutShort s)) := (cutShort_kept s).trans (settleLinks_kept _ _)
  exact ((hcut.trans (hw (by simp))).trans (appendControl_kept he _)).trans (checkHead_kept _)

/-! ## A frame's opening -/

section
variable (n : Word) (step : Nat) (cls : SpeedClass) (s : State)

theorem takeFrameOpen_reel (q : Fin 2) : (takeFrameOpen n step cls s).reel q =
    (creditTo (activeRec s) (creditOpen cls (freeSlotIdx s).isSome) s).reel q := by
  unfold takeFrameOpen
  dsimp only
  split <;> simp

@[simp] theorem takeFrameOpen_reports : (takeFrameOpen n step cls s).reels.last = s.reels.last ∧
    (takeFrameOpen n step cls s).reels.waiting = s.reels.waiting ∧
    (takeFrameOpen n step cls s).reels.refused = s.reels.refused := by
  unfold takeFrameOpen
  dsimp only
  split <;> simp

@[simp] theorem takeFrameOpen_link_frame : (takeFrameOpen n step cls s).link.errors = s.link.errors ∧
    (takeFrameOpen n step cls s).link.pause = s.link.pause ∧ (takeFrameOpen n step cls s).link.lane = s.link.lane ∧
    (takeFrameOpen n step cls s).link.aborted = s.link.aborted ∧
    (takeFrameOpen n step cls s).link.inFlight = s.link.inFlight ∧
    (takeFrameOpen n step cls s).link.scanOut = s.link.scanOut ∧
    (takeFrameOpen n step cls s).link.ingestOut = s.link.ingestOut := by
  unfold takeFrameOpen
  dsimp only
  split <;> simp

@[simp] theorem takeFrameOpen_store : (takeFrameOpen n step cls s).store.emission = s.store.emission ∧
    (takeFrameOpen n step cls s).store.spliceSeen = false := by
  unfold takeFrameOpen
  dsimp only
  split <;> simp

variable {s}

/-- A granted slot holds the new frame; the link of the frame before it is settled (R40, R41, R44). -/
theorem takeFrameOpen_granted {k : Fin 4} (h : freeSlotIdx s = some k) :
    (takeFrameOpen n step cls s).link.rx = .filling k ∧
    (takeFrameOpen n step cls s).store.list = s.store.list ++ [.frame k] ∧
    (takeFrameOpen n step cls s).reg = { s.reg with hole := emptyHole } ∧
    (takeFrameOpen n step cls s).svc = s.svc ∧
    ∀ j, (takeFrameOpen n step cls s).slot j =
      if j = k then allocated s (activeRec s) n step cls
      else if (s.slot j).state ≠ .free ∧ (s.slot j).link = .unsettled then
        { s.slot j with link := linkAtOpen (activeRec s) n (some k) (s.slot j) }
      else s.slot j := by
  unfold takeFrameOpen
  dsimp only
  rw [h]
  simp

/-- With no slot granted the frame is dropped; the store loses only an UNSETTLED link (R42, R44). -/
theorem takeFrameOpen_dropped (h : freeSlotIdx s = none) :
    (takeFrameOpen n step cls s).link.rx = .ignoring ∧
    (takeFrameOpen n step cls s).store.list = s.store.list ∧
    (takeFrameOpen n step cls s).reg = s.reg ∧
    (takeFrameOpen n step cls s).svc = { s.svc with causes := { s.svc.causes with frameLost := true } } ∧
    ∀ j, (takeFrameOpen n step cls s).slot j =
      if (s.slot j).state ≠ .free ∧ (s.slot j).link = .unsettled then { s.slot j with link := .none }
      else s.slot j := by
  unfold takeFrameOpen
  dsimp only
  rw [h]
  simp [raiseCause, latchCause, linkAtOpen]

end

/-- No slot FREE in the store but k: a slot that is not FREE keeps what it holds when slot `k` is allocated. -/
theorem takeFrameOpen_slot_of_ne {s : State} {k j : Fin 4} (n : Word) (step : Nat) (cls : SpeedClass)
    (h : freeSlotIdx s = some k) (hj : j ≠ k) :
    ∃ l, (takeFrameOpen n step cls s).slot j = { s.slot j with link := l } := by
  obtain ⟨-, -, -, -, hslot⟩ := takeFrameOpen_granted n step cls h
  rw [hslot, if_neg hj]
  split
  · exact ⟨_, rfl⟩
  · exact ⟨(s.slot j).link, rfl⟩

theorem takeFrameOpen_slot_dropped {s : State} (n : Word) (step : Nat) (cls : SpeedClass)
    (h : freeSlotIdx s = none) (j : Fin 4) :
    ∃ l, (takeFrameOpen n step cls s).slot j = { s.slot j with link := l } := by
  obtain ⟨-, -, -, -, hslot⟩ := takeFrameOpen_dropped n step cls h
  rw [hslot]
  split
  · exact ⟨_, rfl⟩
  · exact ⟨(s.slot j).link, rfl⟩

theorem takeFrameOpen_state (n : Word) (step : Nat) (cls : SpeedClass) (s : State) (q : Fin 2) :
    ((takeFrameOpen n step cls s).reel q).state = (s.reel q).state := by
  rw [takeFrameOpen_reel, creditTo_state]

theorem takeFrameOpen_limits (n : Word) (step : Nat) (cls : SpeedClass) (s : State) :
    LimitsKept s (takeFrameOpen n step cls s) := by
  have hwaiting : s.waitingServed → noticeFree (takeFrameOpen n step cls s) = noticeFree s →
      (takeFrameOpen n step cls s).waitingServed :=
    fun h hn => h.of_eq (hk := fun q => by rw [takeFrameOpen_state]) (hn := hn)
  cases hg : freeSlotIdx s with
  | some k =>
    obtain ⟨-, hlist, hreg, hsvc, hslot⟩ := takeFrameOpen_granted n step cls hg
    refine { counters := fun h => h.of_eq (hs := by rw [hsvc]) (hf := by rw [hsvc])
             queue := fun h => h.of_eq (by rw [hsvc]), framing := fun h => h.of_eq (by rw [hsvc])
             lists := ?_, waiting := fun h => hwaiting h (noticeFree_congr (by rw [hsvc]))
             tables := fun h => h.of_eq (hr := by rw [hreg]) }
    rintro ⟨hp, ht, hl, hr⟩
    refine ⟨by simpa using hp, by simpa using ht, by simpa [hlist, List.filter_append, isControl] using hl, fun j => ?_⟩
    rw [hslot]
    split
    · exact Nat.zero_le _
    · split <;> exact hr j
  | none =>
    obtain ⟨-, hlist, hreg, hsvc, hslot⟩ := takeFrameOpen_dropped n step cls hg
    exact { counters := fun h => h.of_eq (hs := by rw [hsvc]) (hf := by rw [hsvc])
            queue := fun h => h.of_eq (by rw [hsvc]), framing := fun h => h.of_eq (by rw [hsvc])
            lists := fun h => h.of_eq (hl := hlist) (hr := fun j => by rw [hslot]; split <;> rfl)
            waiting := fun h => hwaiting h (noticeFree_congr (by rw [hsvc]))
            tables := fun h => h.of_eq (hr := by rw [hreg]) }

/-- A frame opened, granted or dropped, is counted once on each side of its record's account (R33, R41, R42). -/
theorem creditOpen_balance {cls : SpeedClass} {c : Counters} {granted : Bool} {stored : Nat}
    (h : c.opened < Config.counterMax → c.opened = c.emitted + c.dropped + c.discarded + stored)
    (hmax : (creditOpen cls granted c).opened < Config.counterMax) :
    (creditOpen cls granted c).opened = (creditOpen cls granted c).emitted + (creditOpen cls granted c).dropped +
      (creditOpen cls granted c).discarded + (stored + flag granted) := by
  have hlt : c.opened < Config.counterMax ∧ (creditOpen cls granted c).opened = c.opened + 1 := by
    simp only [creditOpen, credit32, satAdd] at hmax ⊢
    split at hmax
    · omega
    · next hc => rw [if_neg hc]; omega
  have hbal := h hlt.1
  have hdropped : (creditOpen cls granted c).dropped = c.dropped + flag (!granted) := by
    have : c.dropped + flag (!granted) ≤ Config.counterMax := by
      have : flag (!granted) ≤ 1 := by unfold flag; split <;> omega
      omega
    exact satAdd_eq this
  rw [hlt.2, hdropped, show (creditOpen cls granted c).emitted = c.emitted from rfl,
    show (creditOpen cls granted c).discarded = c.discarded from rfl, hbal]
  cases granted <;> simp only [flag, Bool.not_true, Bool.not_false, if_true, if_false, Bool.false_eq_true] <;> omega

theorem activeRec_eq_some_iff {s : State} (h : s.oneActive) (r : Fin 2) :
    activeRec s = some r ↔ (s.reel r).isActive = true := by
  refine ⟨isActive_of_activeRec, fun hr => ?_⟩
  cases ha : activeRec s with
  | none => rw [activeRec_eq_none.mp ha r] at hr; exact absurd hr (by decide)
  | some q =>
    by_contra hne
    have := not_isActive_of_ne h hr (q := q) (fun e => hne (by rw [e]))
    rw [isActive_of_activeRec ha] at this
    exact absurd this (by decide)

/-- The account of frames after a FRAME_OPEN: the ACTIVE record's frame is in the store or dropped (R41, R42). -/
theorem takeFrameOpen_conserved {n : Word} {step : Nat} {cls : SpeedClass} {s : State} (h : s.framesAccounted)
    (hstore : ∀ q, storeCount (takeFrameOpen n step cls s) q =
      storeCount s q + (if activeRec s = some q then flag (freeSlotIdx s).isSome else 0)) :
    (takeFrameOpen n step cls s).framesConserved := by
  obtain ⟨-, -, -, hone, -, hcons⟩ := h
  intro q
  rw [occupied_iff, free_iff, disposing_iff, takeFrameOpen_state, ← occupied_iff, ← free_iff, ← disposing_iff, hstore,
    takeFrameOpen_reel, creditTo_reel]
  by_cases ha : activeRec s = some q
  · have hk := stateCode_of_isActive (isActive_of_activeRec ha)
    have hne : (s.reel q).state ≠ .free := by rw [Ne, free_iff, hk]; decide
    have hcredit : activeRec s = some q ∧ (s.reel q).state ≠ .free := ⟨ha, hne⟩
    rw [if_pos ha, if_pos hcredit, free_iff, disposing_iff, hk]
    exact ⟨by simp, fun ho => creditOpen_balance ((hcons q).2 ho)⟩
  · have hcredit : ¬(activeRec s = some q ∧ (s.reel q).state ≠ .free) := fun h => ha h.1
    rw [if_neg ha, if_neg hcredit]
    exact hcons q

theorem takeFrameOpen_frames {n : Word} {step : Nat} {cls : SpeedClass} {s : State} (h : s.framesAccounted)
    (hrx : s.link.rx = .between) : (takeFrameOpen n step cls s).framesAccounted := by
  have hkind := takeFrameOpen_state n step cls s
  obtain ⟨hslots, hhead, hlist, hone, hfill, hcons⟩ := id h
  have hnofill : ∀ j, (s.slot j).state ≠ .filling := fun j e => by simpa [hrx] using (hslots j).1.mp e
  have hactive : ∀ q, ((takeFrameOpen n step cls s).reel q).isActive = (s.reel q).isActive := fun q => by
    unfold ReelRecord.isActive; rw [hkind]
  have hem : emittingSlot (takeFrameOpen n step cls s) = emittingSlot s := by simp [emittingSlot]
  have hone' : (takeFrameOpen n step cls s).oneActive := by unfold State.oneActive; rw [hactive, hactive]; exact hone
  cases hg : freeSlotIdx s with
  | some k =>
    obtain ⟨hrx', hl, -, -, hslot⟩ := takeFrameOpen_granted n step cls hg
    have hfree := free_of_freeSlotIdx hg
    have hk : (takeFrameOpen n step cls s).slot k = allocated s (activeRec s) n step cls := by rw [hslot, if_pos rfl]
    refine ⟨fun j => ?_, fun f hf hp => ?_, fun j => ?_, hone', fun j q hj hq => ?_, ?_⟩
    · rw [hrx', hem]
      by_cases e : j = k
      · subst e
        have := (hslots j).2
        rw [hfree] at this
        rw [hk]
        simpa [allocated] using this
      · obtain ⟨l, e'⟩ := takeFrameOpen_slot_of_ne n step cls hg e
        rw [e']
        exact ⟨⟨fun hj => absurd hj (hnofill j), fun hj => absurd (RxState.filling.inj hj).symm e⟩, (hslots j).2⟩
    · obtain ⟨c, rest, hl', hc⟩ := hhead f (by simpa using hf) hp
      exact ⟨c, rest ++ [.frame k], by rw [hl, hl']; rfl, hc⟩
    · rw [hl, List.count_append, List.count_singleton]
      by_cases e : j = k
      · subst e
        rw [hlist j, hk]
        simp [allocated, inStore, hfree, flag]
      · obtain ⟨l, e'⟩ := takeFrameOpen_slot_of_ne n step cls hg e
        have hne : ¬(Entry.frame k == Entry.frame j) = true := by simpa using Ne.symm e
        rw [e', hlist j, if_neg hne]
        rfl
    · by_cases e : j = k
      · subst e
        rw [hactive]
        rw [hk] at hq
        exact isActive_of_activeRec hq
      · obtain ⟨l, e'⟩ := takeFrameOpen_slot_of_ne n step cls hg e
        rw [e'] at hj
        exact absurd hj (hnofill j)
    · refine takeFrameOpen_conserved h fun q => ?_
      have := storeCount_change (s := s) (t := takeFrameOpen n step cls s) (k := k) (r := q) fun j hj => by
        obtain ⟨l, e'⟩ := takeFrameOpen_slot_of_ne n step cls hg hj
        unfold holdsFrameOf; rw [e']; rfl
      rw [hg]
      have hk' : inStore (allocated s (activeRec s) n step cls) = true := rfl
      have htag : (allocated s (activeRec s) n step cls).tag = activeRec s := rfl
      simpa [holdsFrameOf, hk, hk', htag, inStore_of_free hfree, flag] using this
  | none =>
    obtain ⟨hrx', hl, -, -, -⟩ := takeFrameOpen_dropped n step cls hg
    have hlink := takeFrameOpen_slot_dropped n step cls hg
    refine ⟨fun j => ?_, fun f hf hp => ?_, fun j => ?_, hone', fun j q hj hq => ?_, ?_⟩
    · obtain ⟨l, e⟩ := hlink j
      rw [hrx', hem, e]
      exact ⟨⟨fun hj => absurd hj (hnofill j), nofun⟩, (hslots j).2⟩
    · rw [hl]; exact hhead f (by simpa using hf) hp
    · obtain ⟨l, e⟩ := hlink j
      rw [hl, e]; exact hlist j
    · obtain ⟨l, e⟩ := hlink j
      rw [e] at hj
      exact absurd hj (hnofill j)
    · refine takeFrameOpen_conserved h fun q => ?_
      rw [hg, storeCount_congr (s := s) (fun j => by obtain ⟨l, e⟩ := hlink j; rw [e]; rfl)
        (fun j => by obtain ⟨l, e⟩ := hlink j; rw [e])]
      simp [flag]

theorem takeFrameOpen_kept {s : State} (n : Word) (step : Nat) (cls : SpeedClass) (hrx : s.link.rx = .between) :
    Kept s (takeFrameOpen n step cls s) :=
  ⟨takeFrameOpen_limits n step cls s, fun _ h => takeFrameOpen_frames h hrx⟩

/-! ## One block written -/

theorem setReg_kept {s : State} {u : RegUnit} (hu : u.table = s.reg.table) : Kept s { s with reg := u } :=
  { tables := fun h => h.of_eq (hr := hu) }

theorem setXport_kept {s : State} {x : Transport}
    (hc : rank s.xport.ceiling ≤ rank s.xport.cls → rank x.ceiling ≤ rank x.cls) (ht : x.table = s.xport.table) :
    Kept s { s with xport := x } :=
  { ceiling := hc, tables := fun h => h.of_eq (hx := ht) }

theorem setTracks_kept {s : State} {ts : List Track}
    (hl : s.defect.tracks.length ≤ Config.maxTracks → ts.length ≤ Config.maxTracks)
    (ha : s.defect.tracks.Pairwise (fun t u => ¬tracksOverlap t u) → ts.Pairwise fun t u => ¬tracksOverlap t u) :
    Kept s { s with defect := { s.defect with tracks := ts } } :=
  { lists := fun ⟨hp, ht, hc, hr⟩ => ⟨hp, hl ht, hc, hr⟩, tracks := fun ⟨h1, h2⟩ => ⟨hl h1, ha h2⟩ }

/-- A slot write that keeps the slot's state and tag, and its region table's limit. -/
theorem updSlot_kept {k : Fin 4} {f : Slot → Slot} {s : State} (hs : (f (s.slot k)).state = (s.slot k).state)
    (ht : (f (s.slot k)).tag = (s.slot k).tag)
    (hr : (s.slot k).regions.length ≤ Config.maxRegions → (f (s.slot k)).regions.length ≤ Config.maxRegions) :
    Kept s (updSlot k f s) where
  lists := fun ⟨hp, htr, hc, hreg⟩ => ⟨hp, htr, hc, fun j => by
    rw [updSlot_slot]
    split
    · next e => subst e; exact hr (hreg _)
    · exact hreg j⟩
  frames _ h := h.of_books {
    state := fun j => by
      rw [updSlot_slot]; split
      · next e => subst e; exact hs
      · rfl
    tag := fun j => by
      rw [updSlot_slot]; split
      · next e => subst e; exact ht
      · rfl }

theorem writeTo_kept {r : Fin 2} {f : ReelRecord → ReelRecord} {s : State}
    (hk : stateCode (f (s.reel r)).state = stateCode (s.reel r).state)
    (hc : (f (s.reel r)).counters = (s.reel r).counters) : Kept s (writeTo r f s) := by
  unfold writeTo
  split
  · exact .refl s
  · exact updReel_kept hk hc

/-! ## Region tables -/

theorem absorb_length_le (p : Region → Bool) (r : Region) (l : List Region) : (absorb p r l).length ≤ l.length := by
  induction l with
  | nil => exact le_rfl
  | cons x xs ih =>
    unfold absorb
    split
    · simpa using List.length_filter_le _ xs
    · simpa using ih

theorem takeSegment_length_le (y : Nat) (seg : Nat × Nat) {w : RegionWork} (h : w.regions.length ≤ Config.maxRegions) :
    (takeSegment y w seg).regions.length ≤ Config.maxRegions := by
  unfold takeSegment
  split
  · split
    · simpa using (by assumption : w.regions.length < Config.maxRegions)
    · exact h
  · exact (absorb_length_le _ _ _).trans h

theorem regionLine_length_le (l : Latch) (y : Nat) (px : List Pixel) {w : RegionWork}
    (h : w.regions.length ≤ Config.maxRegions) : (regionLine l y px w).regions.length ≤ Config.maxRegions := by
  have hfold : ∀ (segs : List (Nat × Nat)) (u : RegionWork), u.regions.length ≤ Config.maxRegions →
      (segs.foldl (takeSegment y) u).regions.length ≤ Config.maxRegions := by
    intro segs
    induction segs with
    | nil => exact fun _ hu => hu
    | cons seg segs ih => exact fun u hu => ih _ (takeSegment_length_le y seg hu)
  unfold regionLine
  simpa using hfold _ w h

theorem classifyRegions_length (d : DefectTable) (n : Word) (rs : List Region) (ts : List Track) :
    (classifyRegions d n rs ts).1.length = rs.length := by
  induction rs generalizing ts with
  | nil => rfl
  | cons r rs ih =>
    unfold classifyRegions
    split <;> simp [ih]

/-! ## Scratch tracks -/

/-- No two tracks of the list have overlapping spans (R109). -/
def TracksDisjoint (ts : List Track) : Prop := ts.Pairwise fun t u => ¬tracksOverlap t u

theorem TracksDisjoint.filter {ts : List Track} (h : TracksDisjoint ts) (p : Track → Bool) :
    TracksDisjoint (ts.filter p) := List.Pairwise.filter p h

/-- A change that leaves every span leaves the tracks apart. -/
theorem TracksDisjoint.map {ts : List Track} (h : TracksDisjoint ts) {f : Track → Track}
    (hf : ∀ t, (f t).c0 = t.c0 ∧ (f t).c1 = t.c1) : TracksDisjoint (ts.map f) :=
  List.Pairwise.map f (fun t u ht => by
    unfold tracksOverlap
    rw [(hf t).1, (hf t).2, (hf u).1, (hf u).2]
    exact ht) h

/-- A track that a region's span, widened by drift, does not meet does not overlap a track of that span (R111). -/
theorem not_overlap_of_not_meets {drift : Nat} {r : Region} {t u : Track} (hu : u.c0 = r.c0 ∧ u.c1 = r.c1)
    (h : spanMeets drift r t = false) : ¬tracksOverlap t u ∧ ¬tracksOverlap u t := by
  unfold spanMeets at h
  unfold tracksOverlap
  rw [hu.1, hu.2]
  simp only [Bool.and_eq_false_iff, decide_eq_false_iff_not, not_le] at h
  omega

@[simp] theorem matchTrack_span (d : DefectTable) (n : Word) (r : Region) (t : Track) :
    (matchTrack d n r t).c0 = r.c0 ∧ (matchTrack d n r t).c1 = r.c1 := ⟨rfl, rfl⟩

/-- The track found and the ones absorbed are replaced by one: no track is gained (R111). -/
theorem replaced_sublist (p : Track → Bool) (i : Nat) (ts : List Track) :
    (ts.take i ++ (ts.drop (i + 1)).filter p).Sublist (ts.eraseIdx i) := by
  rw [List.eraseIdx_eq_take_drop_succ]
  exact (List.Sublist.refl _).append List.filter_sublist

theorem trackRegion_length_le (d : DefectTable) (n : Word) (r : Region) {ts : List Track}
    (h : ts.length ≤ Config.maxTracks) : (trackRegion d n r ts).2.length ≤ Config.maxTracks := by
  unfold trackRegion
  split
  · next i hi =>
    obtain ⟨hlt, -⟩ := List.findIdx?_eq_some_iff_getElem.mp hi
    split
    · have := (replaced_sublist (fun z => !spanMeets d.drift r z) i ts).length_le
      rw [List.length_eraseIdx_of_lt hlt] at this
      simp only [List.length_append, List.length_cons] at this ⊢
      omega
    · exact h
  · split
    · simpa using (by assumption : ts.length < Config.maxTracks)
    · exact h

/-- A scratch-like region takes the span of the first track it meets and deletes the others it meets, or makes a track where
it meets none: the tracks stay apart (R109, R111, R113). -/
theorem trackRegion_disjoint (d : DefectTable) (n : Word) (r : Region) {ts : List Track} (h : TracksDisjoint ts) :
    TracksDisjoint (trackRegion d n r ts).2 := by
  unfold trackRegion
  split
  · next i hi =>
    obtain ⟨hlt, -, hbefore⟩ := List.findIdx?_eq_some_iff_getElem.mp hi
    split
    · next t ht =>
      obtain ⟨htake, hdrop, hcross⟩ := List.pairwise_append.mp
        (h.sublist ((replaced_sublist (fun z => !spanMeets d.drift r z) i ts).trans (List.eraseIdx_sublist ts i)))
      have hleft : ∀ a ∈ ts.take i, spanMeets d.drift r a = false := fun a ha => by
        obtain ⟨j, hj, rfl⟩ := List.mem_take_iff_getElem.mp ha
        simpa using hbefore j (by omega)
      refine List.pairwise_append.mpr ⟨htake, List.pairwise_cons.mpr ⟨fun b hb => ?_, hdrop⟩, fun a ha b hb => ?_⟩
      · have hb := (List.mem_filter.mp hb).2
        exact (not_overlap_of_not_meets ⟨rfl, rfl⟩ (by simpa using hb)).2
      · obtain rfl | hb := List.mem_cons.mp hb
        · exact (not_overlap_of_not_meets ⟨rfl, rfl⟩ (hleft a ha)).1
        · exact hcross a ha b hb
    · exact h
  · next hi =>
    have hnone := List.findIdx?_eq_none_iff.mp hi
    split
    · refine List.pairwise_append.mpr ⟨h, List.pairwise_singleton _ _, fun t ht u hu => ?_⟩
      obtain rfl := List.mem_singleton.mp hu
      exact (not_overlap_of_not_meets ⟨rfl, rfl⟩ (hnone t ht)).1
    · exact h

/-- What every region's match keeps of the track list, a close's classification keeps. -/
theorem classifyRegions_keeps {P : List Track → Prop} (d : DefectTable) (n : Word)
    (hP : ∀ r ts, P ts → P (trackRegion d n r ts).2) (rs : List Region) {ts : List Track} (h : P ts) :
    P (classifyRegions d n rs ts).2 := by
  induction rs generalizing ts with
  | nil => exact h
  | cons r rs ih =>
    unfold classifyRegions
    split
    · exact ih (hP r ts h)
    · exact ih h

theorem TracksDisjoint.countMisses {ts : List Track} (h : TracksDisjoint ts) : TracksDisjoint (countMisses ts) :=
  (h.filter _).map fun t => by split <;> exact ⟨rfl, rfl⟩

theorem countMisses_length_le (ts : List Track) : (countMisses ts).length ≤ ts.length := by
  unfold countMisses
  simpa using List.length_filter_le _ ts

theorem clearMarks_length (ts : List Track) : (clearMarks ts).length = ts.length := List.length_map _

theorem TracksDisjoint.gated {ts : List Track} (h : TracksDisjoint ts) (n : Word) :
    TracksDisjoint (candidateGate n (clearMarks ts)) :=
  (h.map (f := fun t => { t with matched := false }) fun _ => ⟨rfl, rfl⟩).filter _

/-- The tracks a close leaves to its retirement: the list gated, matched and counted (R109 to R114). -/
def classifiedTracks (d : DefectTable) (n : Word) (rs : List Region) (ts : List Track) : List Track :=
  countMisses (classifyRegions d n rs (candidateGate n (clearMarks ts))).2

theorem classifiedTracks_length_le (d : DefectTable) (n : Word) (rs : List Region) {ts : List Track}
    (h : ts.length ≤ Config.maxTracks) : (classifiedTracks d n rs ts).length ≤ Config.maxTracks := by
  refine (countMisses_length_le _).trans (classifyRegions_keeps (P := fun ts => ts.length ≤ Config.maxTracks) d n
    (fun r _ => trackRegion_length_le d n r) rs ?_)
  exact (List.length_filter_le _ _).trans ((clearMarks_length ts).trans_le h)

theorem TracksDisjoint.classified {ts : List Track} (h : TracksDisjoint ts) (d : DefectTable) (n : Word)
    (rs : List Region) : TracksDisjoint (classifiedTracks d n rs ts) :=
  (classifyRegions_keeps d n (fun r _ => trackRegion_disjoint d n r) rs (h.gated n)).countMisses

/-! ## A line -/

theorem takeTreatedLine_kept (k : Fin 4) (r : Fin 2) (px : List Pixel) (s : State) :
    Kept s (takeTreatedLine k r px s) := by
  unfold takeTreatedLine
  dsimp only
  refine .trans (setReg_kept ?_) (updSlot_kept rfl rfl fun h => regionLine_length_le _ _ px h)
  rfl

theorem takeLine_kept (px : List Pixel) (s : State) : Kept s (takeLine px s) := by
  obtain ⟨-, e⟩ | ⟨k, r, -, -, -, -, e⟩ | ⟨k, r, h, ht, -, e⟩ | ⟨k, -, -, -, e⟩ | ⟨k, h, ht, -, e⟩ :=
    takeLine_cases px s <;> rw [e]
  · exact .refl s
  · exact takeTreatedLine_kept k r px s
  · exact linkFaultDiscard_kept h ht (by simp)
  · exact updSlot_kept rfl rfl id
  · rw [setRx_checkHead]
    exact (discardFrame_kept h ht (by simp)).trans (checkHead_kept _)

/-! ## A treated frame's close -/

theorem acqTimeoutStep_kept (k : Fin 4) (r : Fin 2) (s : State) : Kept s (acqTimeoutStep k r s) := by
  unfold acqTimeoutStep
  dsimp only
  split
  · next h =>
    split
    · exact settleAcq_kept h.1 _ _ _ _
    · exact (settleAcq_kept h.1 _ _ _ _).trans (raiseCause_kept _ _)
  · exact .refl s

theorem acqAdvance_kind (acqMin count : Nat) (r : ReelRecord) :
    stateCode (acqAdvance acqMin count r).state = stateCode r.state ∧
    (acqAdvance acqMin count r).counters = r.counters := by
  unfold acqAdvance
  split
  · next h => split <;> simp [h, stateCode]
  · exact ⟨rfl, rfl⟩

theorem takePeak_kind (sample : Option Nat) (unshrunk : Nat) (r : ReelRecord) :
    (takePeak sample unshrunk r).state = r.state ∧ (takePeak sample unshrunk r).counters = r.counters := by
  unfold takePeak
  split <;> exact ⟨rfl, rfl⟩

@[simp] theorem acqCount_table (sample : Option Nat) (r : ReelRecord) (u : RegUnit) :
    (acqCount sample r u).table = u.table := by
  unfold acqCount addSample
  dsimp only
  (repeat' split) <;> rfl

theorem acqClose_kept (k : Fin 4) (r : Fin 2) (sample : Option Nat) (s : State) : Kept s (acqClose k r sample s) := by
  unfold acqClose
  dsimp only
  have hcount : Kept s { s with reg := acqCount sample (s.reel r) s.reg } := setReg_kept (by simp)
  obtain ⟨hk, hc⟩ := acqAdvance_kind (s.slot k).latch.reg.acqMin (acqCount sample (s.reel r) s.reg).count (s.reel r)
  exact ((hcount.trans (updReel_kept hk hc)).trans (acqTimeoutStep_kept k r _)).trans (setReg_kept rfl)

theorem regClose_kept (k : Fin 4) (r : Fin 2) (s : State) : Kept s (regClose k r s) := by
  unfold regClose
  dsimp only
  refine .trans (.trans (.trans (.trans (.trans (setReg_kept ?_) (acqClose_kept k r _ _)) (updReel_kept ?_ ?_))
    (updSlot_kept ?_ ?_ ?_)) (creditTo_kept _ _ ?_)) (setReg_kept rfl)
  · rfl
  · rw [(takePeak_kind ..).1]
  · exact (takePeak_kind ..).2
  · rfl
  · rfl
  · exact id
  · exact fun _ => ⟨rfl, rfl, rfl, rfl⟩

@[simp] theorem retireTracks_slot (k j : Fin 4) (r : Fin 2) (s : State) : (retireTracks k r s).slot j = s.slot j :=
  slot_of_store (by simp) j

@[simp] theorem judgeTear_slot (j : Fin 4) (r : Fin 2) (n : Word) (torn : Bool) (s : State) :
    (judgeTear r n torn s).slot j = s.slot j := slot_of_store (by simp) j

theorem retireTracks_kept (k : Fin 4) (r : Fin 2) (s : State) : Kept s (retireTracks k r s) := by
  unfold retireTracks
  refine .trans (setTracks_kept ?_ ?_) (creditTo_kept _ _ fun _ => ⟨rfl, rfl, rfl, rfl⟩)
  · exact (List.length_filter_le _ _).trans
  · exact fun h => h.filter _

theorem judgeTear_kept (r : Fin 2) (n : Word) (torn : Bool) (s : State) : Kept s (judgeTear r n torn s) := by
  unfold judgeTear
  dsimp only
  refine .trans ?_ (tearMem_kept _ _)
  have hcredit : Kept s (creditTo (some r)
      (fun c => { c with tearRuns := credit32 c.tearRuns (flag (torn && startsTearRun s.defect.tearMem n)) }) s) :=
    creditTo_kept _ _ fun _ => ⟨rfl, rfl, rfl, rfl⟩
  split
  · exact hcredit.trans (raiseCause_kept _ _)
  · exact hcredit

theorem defectClose_kept (k : Fin 4) (r : Fin 2) (s : State) : Kept s (defectClose k r s) := by
  unfold defectClose
  dsimp only
  refine .trans (.trans (.trans (.trans (setTracks_kept ?_ ?_) (retireTracks_kept k r _)) (judgeTear_kept r _ _ _))
    (updSlot_kept ?_ ?_ ?_)) (creditTo_kept _ _ fun _ => ⟨rfl, rfl, rfl, rfl⟩)
  · exact classifiedTracks_length_le _ _ _
  · exact fun h => TracksDisjoint.classified h _ _ _
  · rfl
  · rfl
  · intro h
    simpa [classifyRegions_length] using h

theorem gradeClose_kept (k : Fin 4) (r : Fin 2) (s : State) : Kept s (gradeClose k r s) := by
  unfold gradeClose
  dsimp only
  have hfade : Kept s { s with grade := { s.grade with fade := fadeClose (setInForce s.grade) (s.slot k).hist s.grade.fade } } := {}
  exact (hfade.trans (updSlot_kept rfl rfl id)).trans (writeTo_kept rfl rfl)

/-! ## Transport control's decisions -/

theorem atCeiling_within (x : Transport) (c : SpeedClass) : rank (atCeiling x c).ceiling ≤ rank (atCeiling x c).cls :=
  slower_within c x.ceiling

theorem speedClose_within (tear acquiring held : Bool) (conf upConf : Nat) {x : Transport}
    (h : rank x.ceiling ≤ rank x.cls) :
    rank (speedClose tear acquiring held conf upConf x).ceiling ≤ rank (speedClose tear acquiring held conf upConf x).cls := by
  unfold speedClose countHeld countGood
  dsimp only
  (repeat' split) <;> first | exact h | exact atCeiling_within _ _

theorem speedClose_table (tear acquiring held : Bool) (conf upConf : Nat) (x : Transport) :
    (speedClose tear acquiring held conf upConf x).table = x.table := by
  unfold speedClose countHeld countGood
  dsimp only
  (repeat' split) <;> rfl

/-- The exposure decision and the adoption leave the class, the ceiling and the table (R92, R93). -/
theorem exposureClose_frame (reported highPm : Nat) (h : Rgb (Vector Nat 64)) (x : Transport) :
    (exposureClose reported highPm h x).cls = x.cls ∧ (exposureClose reported highPm h x).ceiling = x.ceiling ∧
    (exposureClose reported highPm h x).table = x.table := by
  unfold exposureClose
  split <;> exact ⟨rfl, rfl, rfl⟩

theorem adoptStep_frame (reported : Nat) (x : Transport) : (adoptStep reported x).cls = x.cls ∧
    (adoptStep reported x).ceiling = x.ceiling ∧ (adoptStep reported x).table = x.table := by
  unfold adoptStep
  split <;> exact ⟨rfl, rfl, rfl⟩

theorem adoptionStep_kept (k : Fin 4) (s : State) : Kept s (adoptionStep k s) := by
  obtain ⟨hcls, hceil, htable⟩ := adoptStep_frame (s.slot k).repStep s.xport
  exact setXport_kept (by rw [hcls, hceil]; exact id) htable

theorem transportClose_kept (k : Fin 4) (r : Fin 2) (s : State) : Kept s (transportClose k r s) := by
  unfold transportClose
  dsimp only
  refine .trans (.trans (setXport_kept ?_ ?_) (adoptionStep_kept k _)) (updSlot_kept rfl rfl id)
  · intro h
    simp only [exposureClose_frame]
    exact speedClose_within _ _ _ _ _ h
  · simp only [exposureClose_frame, speedClose_table]

/-! ## A frame closed -/

/-- The open frame CLOSED, the receive state between frames again: its slot stays in the store (R9). -/
theorem frameClosed_kept {k : Fin 4} {s : State} (hk : s.link.rx = .filling k) :
    Kept s (setRx .between (updSlot k (fun x => { x with state := .closed }) s)) where
  lists h := h.of_eq (hr := fun j => by rw [setRx_slot, updSlot_slot]; split <;> simp_all)
  frames := by
    intro _ h
    obtain ⟨hf, -⟩ := filling_of_rx h hk
    obtain ⟨hslots, hhead, hlist, hone, hfill, hcons⟩ := h
    have hslot : ∀ j, (setRx .between (updSlot k (fun x => { x with state := .closed }) s)).slot j =
        if j = k then { s.slot k with state := .closed } else s.slot j := fun j => by rw [setRx_slot, updSlot_slot]
    have hin : ∀ j, inStore ((setRx .between (updSlot k (fun x => { x with state := .closed }) s)).slot j) =
        inStore (s.slot j) := fun j => by
      rw [hslot]; split
      · next e => subst e; rw [inStore_of_filling hf]; rfl
      · rfl
    refine ⟨fun j => ?_, hhead, fun j => (hlist j).trans (by rw [hin]), hone, fun j q hj hq => ?_, fun q => ?_⟩
    · rw [hslot, setRx_rx]
      obtain ⟨hfj, hej⟩ := hslots j
      rw [hk] at hfj
      have hem : emittingSlot (setRx .between (updSlot k (fun x => { x with state := .closed }) s)) = emittingSlot s := rfl
      rw [hem]
      split
      · next e => subst e; rw [hf] at hej; simpa using hej
      · next e =>
        have : (s.slot j).state ≠ .filling := fun h => e (RxState.filling.inj (hfj.mp h)).symm
        exact ⟨by simpa using this, hej⟩
    · rw [hslot] at hj hq
      split at hj
      · exact absurd hj (by simp)
      · next e => rw [if_neg e] at hq; exact hfill j q hj hq
    · rw [storeCount_congr hin fun j => by rw [hslot]; split <;> simp_all]
      exact hcons q

/-- The close work of the three units, before the slot is CLOSED (R9, R79, R116, R148). -/
def unitsClosed (k : Fin 4) (r : Fin 2) (s : State) : State := gradeClose k r (defectClose k r (regClose k r s))

theorem closeTreated_eq (k : Fin 4) (r : Fin 2) (s : State) : closeTreated k r s =
    transportClose k r (movePending k (.ready k) (updSlot k (fun x => { x with state := .closed }) (unitsClosed k r s))) := rfl

@[simp] theorem unitsClosed_frame (k : Fin 4) (r : Fin 2) (s : State) : (unitsClosed k r s).pending = s.pending ∧
    (unitsClosed k r s).npor = s.npor ∧ (unitsClosed k r s).link = s.link ∧ (unitsClosed k r s).xport = s.xport ∧
    (unitsClosed k r s).repair = s.repair ∧ (unitsClosed k r s).shelf = s.shelf := by
  simp [unitsClosed]

theorem unitsClosed_kept (k : Fin 4) (r : Fin 2) (s : State) : Kept s (unitsClosed k r s) :=
  ((regClose_kept k r s).trans (defectClose_kept k r _)).trans (gradeClose_kept k r _)

theorem setRx_transportClose (x : RxState) (k : Fin 4) (r : Fin 2) (s : State) :
    setRx x (transportClose k r s) = transportClose k r (setRx x s) := rfl

theorem setRx_movePending (x : RxState) (k : Fin 4) (v : SuccLink) (s : State) :
    setRx x (movePending k v s) = movePending k v (setRx x s) := rfl

theorem closeTreated_kept {k : Fin 4} (r : Fin 2) {s : State} (hk : s.link.rx = .filling k) :
    Kept s (setRx .between (closeTreated k r s)) := by
  rw [closeTreated_eq, setRx_transportClose, setRx_movePending]
  exact (((unitsClosed_kept k r s).trans (frameClosed_kept (by simpa using hk))).trans (movePending_kept k _ _)).trans
    (transportClose_kept k r _)

theorem takeFrameClose_kept (s : State) : Kept s (takeFrameClose s) := by
  obtain ⟨-, e⟩ | ⟨h, e⟩ | ⟨k, h, -, e⟩ | ⟨k, r, h, -, -, e⟩ | ⟨k, r, h, ht, -, e⟩ := takeFrameClose_cases s <;> rw [e]
  · exact .refl s
  · exact setRx_kept (by simp) (by simp [h])
  · rw [setRx_checkHead]
    exact (frameClosed_kept h).trans (checkHead_kept _)
  · rw [setRx_checkHead]
    exact (closeTreated_kept r h).trans (checkHead_kept _)
  · exact linkFaultDiscard_kept h ht (by simp)

/-! ## The cell under way sent -/

/-- The position of the message at the head of the queue freed, not yet taken again (R186). -/
@[simp] def positionVacated (s : State) : State := { s with svc := { s.svc with queue := s.svc.queue.tail, copies := 0 } }

theorem freePosition_eq (s : State) : freePosition s = takeNotice (positionVacated s) := rfl

@[simp] theorem freePosition_slot (s : State) (k : Fin 4) : (freePosition s).slot k = s.slot k := slot_of_store (by simp) k

/-- A position freed is taken by the record that waits longest, or stays free with none waiting (R30, R186). -/
theorem freePosition_cases (s : State) :
    ((noticeFree (positionVacated s) = false ∨ s.reels.waiting = []) ∧ freePosition s = positionVacated s) ∨
    ∃ r rest, s.reels.waiting = r :: rest ∧ noticeFree (positionVacated s) = true ∧
      (freePosition s).reels.waiting = rest ∧
      (freePosition s).reels.last = { s.reel r with state := .disposing } ∧
      (freePosition s).reels.refused = s.reels.refused ∧
      (freePosition s).svc = { s.svc with
        queue := s.svc.queue.tail ++ [⟨true, noticeWords s.link.lane (s.reel r)⟩], copies := 0 } ∧
      ∀ q, (freePosition s).reel q = if q = r then { s.reel r with state := .free } else s.reel q := by
  rw [freePosition_eq]
  cases hw : s.reels.waiting with
  | nil => exact .inl ⟨.inr rfl, takeNotice_idle (.inr hw)⟩
  | cons r rest =>
    cases hf : noticeFree (positionVacated s) with
    | false => exact .inl ⟨.inl rfl, takeNotice_idle (.inl hf)⟩
    | true =>
      obtain ⟨h1, h2, h3, h4, h5⟩ := takeNotice_served (s := positionVacated s) hw hf
      exact .inr ⟨r, rest, rfl, rfl, h1, h2, h3, h4, h5⟩

theorem positionVacated_queue {s : State} (h : s.queueInRange) : (positionVacated s).queueInRange := by
  obtain ⟨hr, hn⟩ := h
  have hsub := List.tail_sublist s.svc.queue
  exact ⟨(hsub.filter _).length_le.trans hr, (hsub.filter _).length_le.trans hn⟩

theorem freePosition_waitingServed {s : State} (h : s.waitingServed) : (freePosition s).waitingServed := by
  obtain ⟨hnd, hiff, -⟩ := h
  obtain ⟨hidle, e⟩ | ⟨r, rest, hw, -, hw', -, -, hsvc, hreel⟩ := freePosition_cases s
  · rw [e]
    exact ⟨hnd, hiff, fun hne => hidle.resolve_right hne⟩
  · rw [hw] at hnd hiff
    obtain ⟨hr, hrest⟩ := List.nodup_cons.mp hnd
    refine ⟨hw' ▸ hrest, fun q => ?_, fun _ => ?_⟩
    · rw [hw', hreel]
      split
      · next e => subst e; simpa using hr
      · next e => rw [← hiff q, List.mem_cons, or_iff_right e]
    · unfold noticeFree
      rw [hsvc]
      simp

theorem freePosition_frames {s : State} (hw : s.waitingServed) (h : s.framesAccounted) :
    (freePosition s).framesAccounted := by
  obtain ⟨-, e⟩ | ⟨r, rest, hlist, -, -, -, -, -, hreel⟩ := freePosition_cases s
  · rw [e]; exact h.of_books {}
  · obtain ⟨-, hiff, -⟩ := hw
    obtain ⟨-, -, -, hone, hfill, hcons⟩ := id h
    have hdisp : (s.reel r).state = .disposing := (hiff r).mp (hlist ▸ List.mem_cons_self)
    have hactive : ∀ q, ((freePosition s).reel q).isActive = (s.reel q).isActive := fun q => by
      rw [hreel]; split
      · next e => subst e; simp [ReelRecord.isActive, hdisp]
      · rfl
    refine h.of_kinds {} ?_ (fun k q hk hq => ?_) (fun q => ?_) (fun q => ?_) (fun q => ?_)
    · unfold State.oneActive; rw [hactive, hactive]; exact hone
    · rw [hactive]; exact hfill k q hk hq
    · rw [hreel]; split
      · next e => simp [ReelRecord.occupied]
      · exact id
    · rw [hreel]; split
      · next e => subst e; exact fun _ => (hcons _).1 (.inr hdisp)
      · exact (hcons q).1
    · rw [hreel]; split
      · next e => subst e; exact ⟨rfl, rfl, rfl, rfl⟩
      · exact ⟨rfl, rfl, rfl, rfl⟩

theorem freePosition_kept (s : State) : Kept s (freePosition s) where
  counters := by
    obtain ⟨-, e⟩ | ⟨r, rest, -, -, -, -, href, hsvc, -⟩ := freePosition_cases s
    · rw [e]; exact id
    · exact fun h => h.of_eq (he := by simp) href (by rw [hsvc]) (by rw [hsvc])
  queue h := takeNotice_queue_kept (positionVacated_queue h)
  framing := by
    obtain ⟨-, e⟩ | ⟨r, rest, -, -, -, -, -, hsvc, -⟩ := freePosition_cases s
    · rw [e]; exact id
    · exact fun h => h.of_eq (by rw [hsvc])
  waiting := freePosition_waitingServed
  frames := freePosition_frames

/-- A control entry leaves the head of the list (R48). -/
@[simp] def controlSent (s : State) : State := { s with store := { s.store with list := s.store.list.tail } }

theorem sendControl_eq (s : State) : sendControl s = checkHead (controlSent s) := rfl

theorem controlSent_limits (s : State) : LimitsKept s (controlSent s) where
  lists := fun ⟨hp, ht, hl, hr⟩ => ⟨hp, ht, (((List.tail_sublist _).filter _).length_le).trans hl, hr⟩

theorem controlSent_frames {s : State} (hn : s.link.inFlight = none) {e : Entry} {rest : List Entry}
    (hl : s.store.list = e :: rest) (he : isControl e = true) (h : s.framesAccounted) : (controlSent s).framesAccounted := by
  obtain ⟨hslots, -, hlist, hrest⟩ := h
  refine ⟨hslots, fun f hf => ?_, fun k => ?_, hrest⟩
  · exact absurd (hn.symm.trans hf) (by simp)
  · have hne : ¬(e == Entry.frame k) = true := by
      intro h
      rw [eq_of_beq h] at he
      simp [isControl] at he
    have := hlist k
    rw [hl, List.count_cons, if_neg hne] at this
    show s.store.list.tail.count (.frame k) = _
    rw [hl]
    exact this

/-- The end of a sending keeps the limits. -/
theorem sentPart_limits (p : SentPart) (s : State) : LimitsKept s (sentPart p s) := by
  unfold sentPart
  split
  · exact (Kept.refl s).toLimitsKept
  · rw [sendControl_eq]
    exact (controlSent_limits s).trans (checkHead_kept _).toLimitsKept
  · split
    · next e he => exact (endEmission_kept (by simp [emittingSlot, he])).toLimitsKept
    · exact (Kept.refl s).toLimitsKept

theorem sentPart_frames {p : SentPart} {s : State} (hn : s.link.inFlight = none)
    (hc : p = .control → ∃ e rest, s.store.list = e :: rest ∧ isControl e = true) (hw : s.waitingServed)
    (h : s.framesAccounted) : (sentPart p s).framesAccounted := by
  cases p with
  | plain => exact h
  | control =>
    obtain ⟨e, rest, hl, he⟩ := hc rfl
    have hsent := controlSent_frames hn hl he h
    exact (checkHead_kept _).frames ((controlSent_limits s).waiting hw) hsent
  | frameClose =>
    unfold sentPart
    dsimp only
    split
    · next e he => exact (endEmission_kept (by simp [emittingSlot, he])).frames hw h
    · exact h

/-- The cell under way taken off the port. -/
@[simp] def flightEnded (s : State) : State := { s with link := { s.link with inFlight := none } }

theorem flightEnded_kept (s : State) : Kept s (flightEnded s) where
  frames := fun _ ⟨hslots, _, hrest⟩ => ⟨hslots, nofun, hrest⟩

theorem completeCell_kept (s : State) : Kept s (completeCell s) := by
  obtain ⟨-, e⟩ | ⟨f, hf, e⟩ := completeCell_cases s
  · rw [e]; exact .refl s
  · rw [e]
    change Kept s (settle s (sentPart f.part (if f.lastCopy then freePosition (flightEnded s) else flightEnded s)))
    refine .trans ?_ (settle_kept s _)
    have hfreed : Kept s (if f.lastCopy then freePosition (flightEnded s) else flightEnded s) := by
      split
      · exact (flightEnded_kept s).trans (freePosition_kept _)
      · exact flightEnded_kept s
    have hflight : (if f.lastCopy then freePosition (flightEnded s) else flightEnded s).link.inFlight = none ∧
        (if f.lastCopy then freePosition (flightEnded s) else flightEnded s).store.list = s.store.list := by
      split
      · simp [flightEnded]
      · exact ⟨rfl, rfl⟩
    refine ⟨hfreed.toLimitsKept.trans (sentPart_limits _ _), fun hw h =>
      sentPart_frames hflight.1 (fun hp => ?_) (hfreed.waiting hw) (hfreed.frames hw h)⟩
    rw [hflight.2]
    exact h.2.1 f hf hp

/-! ## The next cell composed -/

/-- The emitted part of a cell comes from the aborted FRAME_CLOSEs, from the emission under way, or from the control entry at
the head, which stays there; nothing else moves (R17 to R19, R46, R48). -/
theorem composeEmitted_cases (s : State) :
    (∃ a, (composeEmitted s).2.2 = { s with link := { s.link with aborted := a } } ∧ (composeEmitted s).2.1 = .plain) ∨
    (∃ e p, s.store.emission = some e ∧ (composeEmitted s).2.1 ≠ .control ∧
      (composeEmitted s).2.2 = { s with store := { s.store with emission := some { e with pos := p } } }) ∨
    (∃ c rest, s.store.list = c :: rest ∧ isControl c = true ∧ (composeEmitted s).2.2 = s) := by
  unfold composeEmitted nextEmitted
  split
  · exact .inl ⟨_, rfl, rfl⟩
  · split
    · exact .inl ⟨_, rfl, rfl⟩
    · split
      · next e he =>
        refine .inr (.inl ⟨e, _, he, ?_, rfl⟩)
        show (emissionCell s e).2 ≠ .control
        unfold emissionCell
        (repeat' split) <;> simp
      · split
        · exact .inl ⟨_, rfl, rfl⟩
        · next c rest hl =>
          split
          · next hc => exact .inr (.inr ⟨c, rest, hl, ((Bool.and_eq_true ..).mp hc).1, rfl⟩)
          · exact .inl ⟨_, rfl, rfl⟩

/-- The service slot of a composed cell counts a copy or takes the left-over word; nothing else moves (R186, R194). -/
theorem composeSlot_shape (s : State) :
    ∃ l c, (composeSlot s).2.2 = { s with svc := { s.svc with leftover := l, copies := c } } := by
  obtain ⟨w, -, e⟩ | ⟨m, rest, w, -, -, -, e⟩ | ⟨-, e⟩ := composeSlot_cases s <;> rw [e] <;> exact ⟨_, _, rfl⟩

/-- What a composed cell moves: the aborted FRAME_CLOSEs, the cell and its flight, the emission's position, and the transmit
side's copies. A control part comes from the head of the list (R17, R48). -/
theorem composeCell_shape (s : State) :
    ∃ a cell f em l c, composeCell s = { s with
        link := { s.link with aborted := a, ingestOut := cell, inFlight := some f }
        store := { s.store with emission := em }
        svc := { s.svc with leftover := l, copies := c } } ∧
      em.map (·.slot) = s.store.emission.map (·.slot) ∧
      (f.part = .control → ∃ e rest, s.store.list = e :: rest ∧ isControl e = true) := by
  obtain ⟨l, c, hslot⟩ := composeSlot_shape (composeEmitted s).2.2
  unfold composeCell
  dsimp only
  rw [hslot]
  obtain ⟨a, e, hp⟩ | ⟨em, p, he, hp, e⟩ | ⟨x, rest, hl, hx, e⟩ := composeEmitted_cases s <;> rw [e]
  · exact ⟨_, _, _, _, _, _, rfl, rfl, fun h => absurd (hp.symm.trans h) (by simp)⟩
  · exact ⟨_, _, _, _, _, _, rfl, by rw [he]; rfl, fun h => absurd h hp⟩
  · exact ⟨_, _, _, _, _, _, rfl, rfl, fun _ => ⟨x, rest, hl, hx⟩⟩

theorem composeCell_kept (s : State) : Kept s (composeCell s) := by
  obtain ⟨a, cell, f, em, l, c, e, hem, hc⟩ := composeCell_shape s
  rw [e]
  exact { frames := fun _ ⟨hslots, _, hrest⟩ => ⟨fun k => ⟨(hslots k).1, by
    show _ ↔ em.map (·.slot) = some k
    rw [hem]
    exact (hslots k).2⟩, fun g hg hp => by
    obtain rfl := Option.some.inj hg
    exact hc hp, hrest⟩ }

/-! ## Words and messages -/

/-- The service engine written: its counters, its queue and its framing keep their ranges, and no notice comes or goes. -/
theorem setSvc_kept {s : State} {v : Service} (hstray : s.svc.stray ≤ 65535 → v.stray ≤ 65535 := by exact id)
    (hfaults : s.svc.faultCount ≤ 255 → v.faultCount ≤ 255 := by exact id)
    (hqueue : s.queueInRange → ({ s with svc := v } : State).queueInRange := by exact id)
    (hframing : s.framingInRange → ({ s with svc := v } : State).framingInRange := by exact id)
    (hnotice : noticeFree { s with svc := v } = noticeFree s := by rfl) : Kept s { s with svc := v } where
  counters := fun ⟨he, hr, hs, hf⟩ => ⟨he, hr, hstray hs, hfaults hf⟩
  queue := hqueue
  framing := hframing
  waiting h := h.of_eq (hn := hnotice)

theorem recordFault_kept (k : FaultKind) (s : State) : Kept s (recordFault k s) := setSvc_kept (hfaults := satAdd_le 1)

theorem setPair_kept (p : PairState) (s : State) : Kept s (setPair p s) := setSvc_kept

/-- The framing may be set to any state of its range. -/
theorem setFraming_kept {f : Framing} {s : State} (hf : s.framingInRange → (setFraming f s).framingInRange) :
    Kept s (setFraming f s) := setSvc_kept (hframing := hf)

theorem setFraming_waiting (s : State) : (setFraming .waiting s).framingInRange := trivial

theorem endFraming_kept (s : State) : Kept s (endFraming s) :=
  (setFraming_kept fun _ => setFraming_waiting s).trans (setPair_kept .expectFirst _)

theorem faultDiscard_kept (k : FaultKind) (s : State) : Kept s (faultDiscard k s) :=
  ((setFraming_kept fun _ => setFraming_waiting s).trans (setPair_kept .expectFirst _)).trans (recordFault_kept k _)

theorem timeoutStep_kept (s : State) : Kept s (timeoutStep s) := by
  unfold timeoutStep
  split
  · exact .refl s
  · split
    · exact faultDiscard_kept _ s
    · exact .refl s

/-- A counted cell leaves the timeout count below its limit: at the limit the message is discarded (R183). -/
theorem countCell_kept (s : State) : Kept s (countCell s) := by
  unfold countCell
  split
  · exact .refl s
  · next b d t hframing =>
    unfold timeoutStep
    dsimp only [setFraming]
    split
    · exact .trans (setFraming_kept fun _ => setFraming_waiting s) ((setPair_kept .expectFirst _).trans (recordFault_kept _ _))
    · next hlt =>
      refine setFraming_kept fun h => ?_
      unfold State.framingInRange at h
      rw [hframing] at h
      obtain ⟨hb, hd, hlen, -⟩ := h
      exact ⟨hb, hd, hlen, Nat.lt_of_not_le hlt⟩

theorem replyFree_congr {s t : State} (h : t.svc.queue = s.svc.queue) : replyFree t = replyFree s := by
  unfold replyFree; rw [h]

theorem queueReply_kept {code : Nat} {tag : Byte} {body : List Word} {s : State} (h : replyFree s = true) :
    Kept s (queueReply code tag body s) :=
  setSvc_kept (hqueue := fun hq => queueInRange_append hq rfl (by simp) fun _ => h)
    (hnotice := by simp [noticeFree])

/-! ## Table words -/

/-- The element at the index takes its new value, every other stands. -/
theorem vecModify_get {α : Type} {n : Nat} (v : Vector α n) (i : Nat) (f : α → α) (j : Fin n) :
    (vecModify v i f).get j = if j.val = i then f (v.get j) else v.get j := by
  unfold vecModify
  split
  · rw [Vector.get_eq_getElem, Vector.getElem_set, Vector.get_eq_getElem]
    by_cases e : i = j.val
    · subst e; simp
    · simp [e, Ne.symm e]
  · next h =>
    have hne : j.val ≠ i := fun e => h (by rw [← e]; exact j.isLt)
    rw [if_neg hne]

theorem regList_regSet (t : RegTable) (i v : Nat) : regList (regSet t i v) = (regList t).set i v := by
  unfold regSet
  split <;> try rfl
  exact (List.set_eq_of_length_le (by simp only [regList, List.length_cons, List.length_nil]; grind)).symm

theorem transportList_transportSet (t : TransportTable) (i v : Nat) :
    transportList (transportSet t i v) = (transportList t).set i v := by
  unfold transportSet
  split <;> try rfl
  exact (List.set_eq_of_length_le (by simp only [transportList, List.length_cons, List.length_nil]; grind)).symm

theorem defectList_defectSet (t : DefectTable) (i v : Nat) : defectList (defectSet t i v) = (defectList t).set i v := by
  unfold defectSet
  split <;> try rfl
  exact (List.set_eq_of_length_le (by simp only [defectList, List.length_cons, List.length_nil]; grind)).symm

theorem rangeClamp_mem {ranges : List (Nat × Nat)} (h : ∀ r ∈ ranges, r.1 ≤ r.2) (i : Nat) (w : Word) {r : Nat × Nat}
    (hr : ranges[i]? = some r) : r.1 ≤ rangeClamp ranges i w ∧ rangeClamp ranges i w ≤ r.2 := by
  unfold rangeClamp
  rw [hr]
  exact clampNat_mem _ (h r (List.mem_of_getElem? hr))

/-- A clamped word written to a table keeps the table in its ranges. -/
theorem inRanges_set {values : List Nat} {ranges : List (Nat × Nat)} (hle : ∀ r ∈ ranges, r.1 ≤ r.2)
    (h : inRanges values ranges) (i : Nat) (w : Word) : inRanges (values.set i (rangeClamp ranges i w)) ranges := by
  intro j v r hv hr
  rw [List.getElem?_set] at hv
  split at hv
  · next e =>
    subst e
    split at hv
    · obtain rfl := Option.some.inj hv
      exact rangeClamp_mem hle _ w hr
    · simp at hv
  · exact h j v r hv hr

theorem regRanges_le : ∀ r ∈ regRanges, r.1 ≤ r.2 := by decide
theorem transportRanges_le : ∀ r ∈ transportRanges, r.1 ≤ r.2 := by decide
theorem defectRanges_le : ∀ r ∈ defectRanges, r.1 ≤ r.2 := by decide

theorem gradeRange_le (i : Nat) : (gradeRange i).1 ≤ (gradeRange i).2 := by
  unfold gradeRange
  (repeat' split) <;> decide

theorem writeWord_tables {s : State} (h : s.tablesInRange) (id i : Nat) (w : Word) : (writeWord id i w s).tablesInRange := by
  obtain ⟨h1, h2, h3, h4, h5, h6⟩ := h
  unfold writeWord
  split
  · exact ⟨by rw [regList_regSet]; exact inRanges_set regRanges_le h1 i w, h2, h3, h4, h5, h6⟩
  · exact ⟨h1, by rw [transportList_transportSet]; exact inRanges_set transportRanges_le h2 i w, h3, h4, h5, h6⟩
  · exact ⟨h1, h2, by rw [defectList_defectSet]; exact inRanges_set defectRanges_le h3 i w, h4, h5, h6⟩
  · refine ⟨h1, h2, h3, fun j => ?_, h5, h6⟩
    rw [vecModify_get]
    split
    · next e => rw [e]; exact clampInt_mem _ (gradeRange_le i)
    · exact h4 j
  · refine ⟨h1, h2, h3, h4, fun j => ?_, h6⟩
    rw [vecModify_get]
    split
    · exact policyWrite_inRange i w _ (h5 j)
    · exact h5 j
  · refine ⟨h1, h2, h3, h4, h5, fun j => ?_⟩
    rw [vecModify_get]
    split
    · exact bayWrite_inRange i w _ (h6 j)
    · exact h6 j
  · exact ⟨h1, h2, h3, h4, h5, h6⟩

theorem writeWords_tables {s : State} (h : s.tablesInRange) (id i : Nat) (ws : List Word) :
    (writeWords id i ws s).tablesInRange := by
  induction ws generalizing i s with
  | nil => exact h
  | cons w ws ih => exact ih (writeWord_tables h id i w) (i + 1)

/-- Only table 4 holds the programmed set. -/
theorem writeWords_grade {id : Nat} (h : id ≠ 4) (i : Nat) (ws : List Word) (s : State) :
    (writeWords id i ws s).grade = s.grade := by
  induction ws generalizing i s with
  | nil => rfl
  | cons w ws ih =>
    refine (ih (i + 1) _).trans ?_
    unfold writeWord
    split <;> first | rfl | exact absurd rfl h

theorem writeTableWords_tables {s : State} (h : s.tablesInRange) (id start : Nat) (ws : List Word) :
    (writeTableWords id start ws s).tablesInRange := by
  have hw := writeWords_tables h id start ws
  unfold writeTableWords
  dsimp only
  split
  · exact hw
  · exact hw

theorem writeTableWords_checksum {s : State} (h : s.checksumCurrent) (id start : Nat) (ws : List Word) :
    (writeTableWords id start ws s).checksumCurrent := by
  unfold writeTableWords
  dsimp only
  split
  · rfl
  · next hid => exact h.of_eq (by rw [writeWords_grade hid]) (by rw [writeWords_grade hid])

@[simp] theorem writeTableWords_reel (id start : Nat) (ws : List Word) (s : State) (r : Fin 2) :
    (writeTableWords id start ws s).reel r = s.reel r := reel_of_recs (by simp) r

@[simp] theorem writeTableWords_slot (id start : Nat) (ws : List Word) (s : State) (k : Fin 4) :
    (writeTableWords id start ws s).slot k = s.slot k := slot_of_store (by simp) k

theorem writeTableWords_kept (id start : Nat) (ws : List Word) (s : State) : Kept s (writeTableWords id start ws s) where
  tables h := writeTableWords_tables h id start ws
  checksum h := writeTableWords_checksum h id start ws

/-! ## The verbs' actions -/

theorem clearStatus_kept (s : State) : Kept s (clearStatus s) where
  pending := rfl
  ceiling := id
  counters _ := ⟨Nat.zero_le _, Nat.zero_le _, Nat.zero_le _, Nat.zero_le _⟩
  queue := id
  framing := id
  lists := id
  waiting := id
  placements := id
  tracks := id
  tables := id
  checksum := id
  frames _ := id

theorem transportCeiling_within (c : SpeedClass) (active : Bool) (x : Transport) :
    rank (transportCeiling c active x).ceiling ≤ rank (transportCeiling c active x).cls := by
  unfold transportCeiling
  cases active
  · exact le_rfl
  · exact slower_within x.cls c

/-- The shelving unit and the hysteresis flag written: the placements keep what they had, the policy stands and the bays keep
their ranges. -/
theorem setShelf_kept {s : State} {u : Shelving} (b : Bool)
    (hle : u.placements.length ≤ s.shelf.placements.length)
    (hids : ∀ p ∈ u.placements, ∃ q ∈ s.shelf.placements, p.id = q.id)
    (hpair : s.shelf.placements.Pairwise (fun p q => p.id ≠ q.id ∧ p.reelId ≠ q.reelId) →
      u.placements.Pairwise fun p q => p.id ≠ q.id ∧ p.reelId ≠ q.reelId)
    (hnext : u.nextId = s.shelf.nextId) (hpolicy : u.policy = s.shelf.policy)
    (hbays : (∀ c, (s.shelf.bays.get c).inRange) → ∀ c, (u.bays.get c).inRange) :
    Kept s { s with shelf := u, xport := { s.xport with hyst := b } } where
  lists := fun ⟨hp, ht, hl, hr⟩ => ⟨hle.trans hp, ht, hl, hr⟩
  placements := by
    rintro ⟨hp, hn, hi, hd⟩
    refine ⟨hle.trans hp, hnext ▸ hn, fun p hm => ?_, hpair hd⟩
    obtain ⟨q, hq, e⟩ := hids p hm
    exact e ▸ hi q hq
  tables := fun ⟨h1, h2, h3, h4, h5, h6⟩ => ⟨h1, h2, h3, h4, hpolicy ▸ h5, hbays h6⟩

/-- A list of placements shortened keeps what it had. -/
theorem setShelf_kept_of_sublist {s : State} {u : Shelving} (b : Bool)
    (hsub : u.placements.Sublist s.shelf.placements) (hnext : u.nextId = s.shelf.nextId)
    (hpolicy : u.policy = s.shelf.policy)
    (hbays : (∀ c, (s.shelf.bays.get c).inRange) → ∀ c, (u.bays.get c).inRange) :
    Kept s { s with shelf := u, xport := { s.xport with hyst := b } } :=
  setShelf_kept b hsub.length_le (fun p hp => ⟨p, hsub.subset hp, rfl⟩) (·.sublist hsub) hnext hpolicy hbays

theorem removePlacement_sublist (s : Shelving) (id : Nat) :
    (removePlacement s id).placements.Sublist s.placements := List.eraseP_sublist

/-- The bay alone has its occupied count raised (R174). -/
theorem confirmPlacement_bay (s : Shelving) (p : Placement) (c : Fin 64) :
    (confirmPlacement s p).bays.get c = if c = p.bay then
      { s.bays.get c with occupied := satAdd 4095 (s.bays.get c).occupied 1 } else s.bays.get c := by
  refine (vecModify_get _ _ _ _).trans ?_
  simp only [Fin.val_inj]
  rfl

/-- The bay alone is held (R175). -/
theorem holdBay_bay (s : Shelving) (b c : Fin 64) :
    (holdBay s b).bays.get c = if c = b then { s.bays.get c with refusalHold := true } else s.bays.get c := by
  refine (vecModify_get _ _ _ _).trans ?_
  simp only [Fin.val_inj]

theorem actPlaceConfirm_kept (w : Word) (s : State) : Kept s (actPlaceConfirm w s).2 := by
  unfold actPlaceConfirm
  split
  · exact .refl s
  · next p _ =>
    refine setShelf_kept_of_sublist _ (removePlacement_sublist s.shelf p.id) rfl rfl fun h c => ?_
    rw [confirmPlacement_bay]
    split
    · exact ⟨(h c).1, satAdd_le 1 (h c).2⟩
    · exact h c

theorem holdBay_inRange {s : Shelving} {b : Fin 64} (h : ∀ c, (s.bays.get c).inRange) (c : Fin 64) :
    ((holdBay s b).bays.get c).inRange := by
  rw [holdBay_bay]
  split <;> exact h c

/-- A refusal keeps every invariant, with any hysteresis flag (R175, R176). -/
theorem refusePlacement_kept (s : State) (p : Placement) (b : Bool) :
    Kept s { s with shelf := (refusePlacement s.shelf p).1, xport := { s.xport with hyst := b } } := by
  obtain ⟨c, e⟩ | ⟨why, e⟩ := refusePlacement_cases s.shelf p <;> rw [e]
  · refine setShelf_kept b ?_ ?_ ?_ rfl rfl holdBay_inRange
    · simp [movePlacement]
    · intro x hx
      obtain ⟨q, hq, rfl⟩ := List.mem_map.mp hx
      refine ⟨q, hq, ?_⟩
      split <;> rfl
    · intro h
      refine List.pairwise_map.mpr (h.imp fun {x y} hxy => ?_)
      (repeat' split) <;> exact hxy
  · exact setShelf_kept_of_sublist b (removePlacement_sublist (holdBay s.shelf p.bay) p.id) rfl rfl holdBay_inRange

theorem actPlaceRefuse_kept (w : Word) (s : State) : Kept s (actPlaceRefuse w s).2 := by
  unfold actPlaceRefuse
  split
  · exact .refl s
  · dsimp only
    split
    · exact refusePlacement_kept s _ s.xport.hyst
    · exact refusePlacement_kept s _ _

theorem actWriteTable_kept (id start : Nat) (ws : List Word) (s : State) : Kept s (actWriteTable id start ws s).2 := by
  unfold actWriteTable
  split
  · exact .refl s
  · split
    · exact .refl s
    · exact writeTableWords_kept id start ws s

theorem setGrade_kept {s : State} {g : Grading} (hp : g.prog = s.grade.prog) (hc : g.progCheck = s.grade.progCheck) :
    Kept s { s with grade := g } where
  tables h := h.of_eq (hg := hp)
  checksum h := h.of_eq hp hc

theorem onOneWord_kept {act : Word → State → List Word × State} {s : State} (h : ∀ w, Kept s (act w s).2)
    (body : List Word) : Kept s (onOneWord act body s).2 := by
  unfold onOneWord
  split
  · exact h _
  · exact .refl s

/-- Every verb's action keeps every invariant (R188 to R191). -/
theorem verbAction_kept (v : Verb) (body : List Word) (s : State) : Kept s (verbAction v body s).2 := by
  cases v with
  | identify => exact .refl s
  | readStatus => exact clearStatus_kept s
  | setMask => exact onOneWord_kept (fun w => setSvc_kept) body
  | writeTable =>
    change Kept s (onTableWrite body s).2
    unfold onTableWrite
    split
    · exact actWriteTable_kept _ _ _ s
    · exact .refl s
  | readTable =>
    change Kept s (onTableRead body s).2
    unfold onTableRead
    split
    · rw [actReadTable_state]; exact .refl s
    · exact .refl s
  | selectGrade =>
    refine onOneWord_kept (fun w => ?_) body
    unfold actSelectGrade
    split
    · exact .refl s
    · exact setGrade_kept rfl rfl
  | trim =>
    change Kept s (onTrim body s).2
    unfold onTrim
    split
    · exact setGrade_kept rfl rfl
    · exact .refl s
  | setCeiling => exact onOneWord_kept (fun w => setXport_kept (fun _ => transportCeiling_within _ _ _) rfl) body
  | readReel => exact onOneWord_kept (fun w => by rw [actReadReel_state]; exact .refl s) body
  | checksum => exact .refl s
  | placeConfirm => exact onOneWord_kept (fun w => actPlaceConfirm_kept w s) body
  | placeRefuse => exact onOneWord_kept (fun w => actPlaceRefuse_kept w s) body
  | reset => exact .refl s

/-! ## RESET and power-on -/

@[simp] theorem resetBlocks_reel (reply : List Word) (s : State) (r : Fin 2) :
    (resetBlocks reply s).reel r = { s.reel r with state := .free } := by
  simp [resetBlocks, State.reel, Vector.get_eq_getElem, -reels_recs_get]

/-- A state with every slot and every record FREE, no frame open and none in emission, accounts for its frames. -/
theorem framesAccounted_of_free {s : State} (hslot : ∀ k, (s.slot k).state = .free)
    (hreel : ∀ r, (s.reel r).state = .free) (hrx : ∀ k, s.link.rx ≠ .filling k)
    (hflight : ∀ f, s.link.inFlight = some f → f.part ≠ .control) (hlist : s.store.list = [])
    (hem : s.store.emission = none) : s.framesAccounted := by
  have hin : ∀ k, inStore (s.slot k) = false := fun k => inStore_of_free (hslot k)
  refine ⟨fun k => ?_, fun f hf hp => absurd hp (hflight f hf), fun k => ?_, ?_, fun k r hk => ?_, fun r => ⟨fun _ => ?_, fun ho => ?_⟩⟩
  · simp [hslot, hrx, emittingSlot, hem]
  · simp [hlist, hin, flag]
  · simp [State.oneActive, ReelRecord.isActive, hreel]
  · simp [hslot] at hk
  · rw [storeCount_eq_sum]; simp [holdsFrameOf, hin, flag]
  · simp [ReelRecord.occupied, hreel] at ho

theorem runReset_kept (tag : Byte) (s : State) : Kept s (runReset tag s) where
  pending := rfl
  ceiling _ := Nat.le_refl 0
  counters _ := ⟨Nat.zero_le _, Nat.zero_le _, Nat.zero_le _, Nat.zero_le _⟩
  queue _ := ⟨by simp [runReset, resetBlocks, serviceReset, Config.replyPositions],
    by simp [runReset, resetBlocks, serviceReset]⟩
  framing _ := trivial
  lists := fun ⟨hp, _, _, hr⟩ => ⟨hp, Nat.zero_le _, Nat.zero_le _, fun k => by
    rw [runReset, resetBlocks_slot]
    obtain ⟨-, e⟩ | ⟨-, e⟩ := resetSlot_cases (s.slot k) <;> rw [e]
    · exact Nat.zero_le _
    · exact hr k⟩
  waiting _ := ⟨List.nodup_nil, fun r => by rw [runReset, resetBlocks_reel]; simp [resetBlocks], fun h => absurd rfl h⟩
  placements := id
  tracks _ := ⟨Nat.zero_le _, List.Pairwise.nil⟩
  tables := id
  checksum := id
  frames _ _ := by
    refine framesAccounted_of_free (by simp [runReset]) (by simp [runReset]) (fun k => ?_) (fun f hf => ?_) rfl rfl
    · simp only [runReset, resetBlocks, linkReset]
      split <;> simp
    · simp only [runReset, resetBlocks, linkReset, Option.map_eq_some_iff] at hf
      obtain ⟨-, -, rfl⟩ := hf
      simp

/-- The power-on state with any commands waiting and any level of the pin (R201). -/
def poweredOn (lane : BitVec 4) (p : List Instr) (n : Bool) : State := { powerOnState lane with pending := p, npor := n }

section
variable (lane : BitVec 4) (p : List Instr) (n : Bool)

@[simp] theorem poweredOn_slot (k : Fin 4) : (poweredOn lane p n).slot k = freeSlot := by
  simp [poweredOn, powerOnState]

@[simp] theorem poweredOn_reel (r : Fin 2) : (poweredOn lane p n).reel r = freeRecord := by
  simp [poweredOn, powerOnState]

theorem inRanges_of_zip {values : List Nat} {ranges : List (Nat × Nat)}
    (h : ∀ x ∈ values.zip ranges, x.2.1 ≤ x.1 ∧ x.1 ≤ x.2.2) : inRanges values ranges := fun i v r hv hr =>
  h (v, r) (List.mem_of_getElem? (i := i) (by rw [List.getElem?_zip_eq_some]; exact ⟨hv, hr⟩))

theorem poweredOn_tables : (poweredOn lane p n).tablesInRange := by
  have hreg : ∀ x ∈ (regList defaultRegTable).zip regRanges, x.2.1 ≤ x.1 ∧ x.1 ≤ x.2.2 := by decide
  have hxport : ∀ x ∈ (transportList defaultTransportTable).zip transportRanges, x.2.1 ≤ x.1 ∧ x.1 ≤ x.2.2 := by decide
  have hdefect : ∀ x ∈ (defectList defaultDefectTable).zip defectRanges, x.2.1 ≤ x.1 ∧ x.1 ≤ x.2.2 := by decide
  refine ⟨inRanges_of_zip hreg, inRanges_of_zip hxport, inRanges_of_zip hdefect, fun i => ?_, fun e => ?_, fun b => ?_⟩
  · have hz : (poweredOn lane p n).grade.prog.get i = 0 := by simp [poweredOn, powerOnState, zeroGradeSet]
    rw [hz]
    unfold gradeRange
    (repeat' split) <;> decide
  · simp [poweredOn, powerOnState, PolicyEntry.inRange, endEntry]
  · simp [poweredOn, powerOnState, Bay.inRange, offBay]

theorem poweredOn_waiting : (poweredOn lane p n).waitingServed :=
  ⟨List.nodup_nil, fun r => by rw [poweredOn_reel]; simp [poweredOn, powerOnState, freeRecord], fun h => absurd rfl h⟩

theorem poweredOn_frames : (poweredOn lane p n).framesAccounted :=
  framesAccounted_of_free (by simp [freeSlot]) (by simp [freeRecord]) nofun nofun rfl rfl

theorem poweredOn_placements : (poweredOn lane p n).placementsApart :=
  ⟨Nat.zero_le _, ⟨le_rfl, (by decide : 1 ≤ 255)⟩, nofun, List.Pairwise.nil⟩

theorem poweredOn_lists : (poweredOn lane p n).listsInRange :=
  ⟨Nat.zero_le _, Nat.zero_le _, Nat.zero_le _, fun k => by rw [poweredOn_slot]; exact Nat.zero_le _⟩

theorem poweredOn_counters : (poweredOn lane p n).countersInRange :=
  ⟨Nat.zero_le _, Nat.zero_le _, Nat.zero_le _, Nat.zero_le _⟩

theorem poweredOn_checksum : (poweredOn lane p n).checksumCurrent := by
  simp [State.checksumCurrent, poweredOn, powerOnState]

theorem poweredOn_kept (s : State) : Kept s (poweredOn lane s.pending n) where
  pending := rfl
  ceiling _ := Nat.le_refl 0
  counters _ := poweredOn_counters ..
  queue _ := ⟨Nat.zero_le _, Nat.zero_le _⟩
  framing _ := trivial
  lists _ := poweredOn_lists ..
  waiting _ := poweredOn_waiting ..
  placements _ := poweredOn_placements ..
  tracks _ := ⟨Nat.zero_le _, List.Pairwise.nil⟩
  tables _ := poweredOn_tables ..
  checksum _ := poweredOn_checksum ..
  frames _ _ := poweredOn_frames ..

end

/-! ## Messages and service slots -/

theorem runVerb_kept (v : Verb) (tag : Byte) (body : List Word) (s : State) : Kept s (runVerb v tag body s) := by
  obtain ⟨-, -, e⟩ | ⟨-, -, e⟩ | ⟨-, hf, -, e⟩ | ⟨-, hf, -, e⟩ := runVerb_cases v tag body s <;> rw [e] <;>
    refine (endFraming_kept s).trans ?_
  · exact runReset_kept tag _
  · exact recordFault_kept _ _
  · have hreply : Kept (endFraming s) (queueReply (verbCode v) tag (verbAction v body (endFraming s)).1
        (verbAction v body (endFraming s)).2) :=
      (verbAction_kept v body _).trans (queueReply_kept (by rw [replyFree_congr (verbAction_frame v body _).queue]; exact hf))
    unfold settleVerb
    split
    · exact hreply
    · exact hreply.trans (settle_kept _ _)
  · exact queueReply_kept hf

theorem runUnknown_kept (code : Nat) (tag : Byte) (s : State) : Kept s (runUnknown code tag s) := by
  unfold runUnknown
  dsimp only
  refine (endFraming_kept s).trans ?_
  split
  · exact recordFault_kept _ _
  · next hf => exact queueReply_kept (by simpa using hf)

theorem runMessage_kept (start : Word) (body : List Word) (s : State) : Kept s (runMessage start body s) := by
  unfold runMessage
  split
  · exact runVerb_kept ..
  · exact runUnknown_kept ..

/-- An accepted word keeps the receive buffer within its 63 words (R184). -/
theorem acceptWord_kept (w : Word) (s : State) : Kept s (acceptWord w s) := by
  unfold acceptWord
  split
  · split
    · next hs =>
      split
      · exact runMessage_kept ..
      · next hn =>
        refine setFraming_kept fun _ => ?_
        have hbody : bitsOf w 15 8 ≤ Config.maxBody := of_decide_eq_true ((Bool.and_eq_true ..).mp hs).2
        have h62 : Config.maxBody = 62 := rfl
        exact ⟨le_rfl, by omega, by simp only [List.length_singleton]; omega, by decide⟩
    · exact setSvc_kept (hstray := satAdd_le 1)
  · next b d t hframing =>
    split
    · exact runMessage_kept ..
    · next hd =>
      refine setFraming_kept fun h => ?_
      unfold State.framingInRange at h
      rw [hframing] at h
      obtain ⟨hb, -, hlen, -⟩ := h
      exact ⟨by simp, by omega, by simp only [List.length_append, List.length_singleton]; omega, by decide⟩

theorem takeSlot_kept (slot : Option Word) (s : State) : Kept s (takeSlot slot s) := by
  obtain ⟨w, -, -, e⟩ | ⟨-, -, e⟩ | ⟨f, -, -, e⟩ | ⟨f, w, -, -, -, e⟩ | ⟨f, -, -, e⟩ := takeSlot_cases slot s <;> rw [e]
  · exact (setPair_kept _ s).trans (countCell_kept _)
  · exact countCell_kept s
  · exact (setPair_kept _ s).trans (acceptWord_kept f _)
  · exact faultDiscard_kept _ s
  · exact faultDiscard_kept _ s

theorem setPause_kept (p : Bool) (s : State) : Kept s (setPause p s) := .trans {} (settle_kept _ _)

theorem creditLinkError_kept (s : State) : Kept s (creditLinkError s) where
  pending := rfl
  ceiling := id
  counters := fun ⟨he, hr, hs, hf⟩ => ⟨satAdd_le 1 he, hr, hs, hf⟩
  queue := id
  framing := id
  lists := id
  waiting := id
  placements := id
  tracks := id
  tables := id
  checksum := id
  frames _ := id

/-! ## Every command, every step -/

theorem verbCommand_effect (v : Verb) (tag : Byte) (body : List Word) :
    exec (verbCommand v tag body) = whilePowered (runVerb v tag body) := by
  cases v <;> rfl

/-- Every command but the pin's own two is an effect under power, which keeps the waiting commands and every invariant. -/
theorem exec_effect (c : Instr) (hp : ∀ lane, c ≠ .powerOn lane) (hn : c ≠ .nporFall) :
    ∃ f, exec c = whilePowered f ∧ ∀ s, Kept s (f s) := by
  cases c with
  | powerOn lane => exact absurd rfl (hp lane)
  | nporFall => exact absurd rfl hn
  | idleCell => exact ⟨_, rfl, .refl⟩
  | reelOpen h =>
    exact ⟨_, rfl, fun s => (controlCell_kept rfl (fun hrx => takeReelOpen_kept _ hrx) s).trans (settle_kept _ _)⟩
  | frameOpen n step cls =>
    exact ⟨_, rfl, fun s => (((cutShort_kept s).trans (takeFrameOpen_kept n _ cls (by simp))).trans
      (checkHead_kept _)).trans (settle_kept _ _)⟩
  | line px => exact ⟨_, rfl, fun s => (takeLine_kept px s).trans (settle_kept _ _)⟩
  | frameClose => exact ⟨_, rfl, fun s => (takeFrameClose_kept s).trans (settle_kept _ _)⟩
  | splice => exact ⟨_, rfl, fun s => (controlCell_kept rfl (fun _ => takeSplice_kept _) s).trans (settle_kept _ _)⟩
  | reelClose => exact ⟨_, rfl, fun s => (controlCell_kept rfl (fun hrx => takeReelClose_kept hrx) s).trans (settle_kept _ _)⟩
  | droppedCell port =>
    refine ⟨_, rfl, fun s => ?_⟩
    cases port
    · exact creditLinkError_kept s
    · exact (creditLinkError_kept s).trans (takeSlot_kept _ _)
  | serviceCell pause valid word => exact ⟨_, rfl, fun s => (takeSlot_kept _ s).trans (setPause_kept _ _)⟩
  | directiveCell => exact ⟨_, rfl, fun s => {}⟩
  | ingestOutgoingCell sending =>
    refine ⟨_, rfl, fun s => ?_⟩
    have hcomposed := (completeCell_kept s).trans (composeCell_kept _)
    cases sending
    · exact hcomposed.trans (completeCell_kept _)
    · exact hcomposed
  | timeout => exact ⟨_, rfl, timeoutStep_kept⟩
  | identify tag body => exact ⟨_, rfl, runVerb_kept _ tag body⟩
  | readStatus tag body => exact ⟨_, rfl, runVerb_kept _ tag body⟩
  | setMask tag body => exact ⟨_, rfl, runVerb_kept _ tag body⟩
  | writeTable tag body => exact ⟨_, rfl, runVerb_kept _ tag body⟩
  | readTable tag body => exact ⟨_, rfl, runVerb_kept _ tag body⟩
  | selectGrade tag body => exact ⟨_, rfl, runVerb_kept _ tag body⟩
  | trim tag body => exact ⟨_, rfl, runVerb_kept _ tag body⟩
  | setCeiling tag body => exact ⟨_, rfl, runVerb_kept _ tag body⟩
  | readReel tag body => exact ⟨_, rfl, runVerb_kept _ tag body⟩
  | checksum tag body => exact ⟨_, rfl, runVerb_kept _ tag body⟩
  | placeConfirm tag body => exact ⟨_, rfl, runVerb_kept _ tag body⟩
  | placeRefuse tag body => exact ⟨_, rfl, runVerb_kept _ tag body⟩
  | reset tag body => exact ⟨_, rfl, runVerb_kept _ tag body⟩
  | emissionStart => exact ⟨_, rfl, fun s => (checkHead_kept s).trans (settle_kept _ _)⟩
  | emissionEnd =>
    refine ⟨_, rfl, fun s => ?_⟩
    split
    · exact completeCell_kept s
    · exact .refl s
  | enterDisposing =>
    exact ⟨_, rfl, fun s => ((judgeStore_kept 0 s).trans (judgeStore_kept 1 _)).trans (settle_kept _ _)⟩
  | dispositionNotice => exact ⟨_, rfl, fun s => (takeNotice_kept s).trans (settle_kept _ _)⟩
  | acqTimeout =>
    refine ⟨_, rfl, fun s => ?_⟩
    split
    · exact (acqTimeoutStep_kept _ _ s).trans (settle_kept _ _)
    · exact .refl s
  | exposureAdoption =>
    refine ⟨_, rfl, fun s => ?_⟩
    split
    · exact (adoptionStep_kept _ s).trans (settle_kept _ _)
    · exact .refl s
  | trackRetire =>
    refine ⟨_, rfl, fun s => ?_⟩
    split
    · exact (retireTracks_kept _ _ s).trans (settle_kept _ _)
    · exact .refl s

/-- Every command answers a next state, which keeps the waiting commands and every invariant. -/
theorem exec_kept (c : Instr) (s : State) : ∃ t, exec c s = .next t ∧ Kept s t := by
  by_cases hp : ∃ lane, c = .powerOn lane
  · obtain ⟨lane, rfl⟩ := hp
    exact ⟨_, rfl, poweredOn_kept lane true s⟩
  · by_cases hn : c = .nporFall
    · subst hn
      exact ⟨_, rfl, poweredOn_kept 0 false s⟩
    · obtain ⟨f, e, hf⟩ := exec_effect c (fun lane h => hp ⟨lane, h⟩) hn
      rw [e]
      refine ⟨_, rfl, ?_⟩
      split
      · exact hf s
      · exact .refl s

end Sys2Proof.Machine
end

section
/-! PROOFS. The statements that the record of every invariant settles, and those on the step itself. -/
namespace Sys2Proof.Machine

-- One thread a theorem is too many for the joined text under its memory limit.
set_option Elab.async false

/-- A step keeps every invariant: it runs the front command on the queue's rest, which no invariant reads. -/
theorem step_kept {s t : State} (h : step s = .next t) :
    ∃ p, Kept { s with pending := p } t := by
  unfold step at h
  split at h
  · obtain rfl := Host.Outcome.next.inj h
    exact ⟨s.pending, .refl s⟩
  · next c rest _ =>
    obtain ⟨u, hu, hk⟩ := exec_kept c { s with pending := rest }
    rw [hu] at h
    obtain rfl := Host.Outcome.next.inj h
    exact ⟨rest, hk⟩

/-- Settles O55: each limit is a field of what every step keeps, and condition bit 2 reads the class. -/
theorem limitsAreKept : Obligations.LimitsAreKept := by
  unfold Obligations.LimitsAreKept
  refine ⟨fun s t h e => ?_, fun s => conditionWord_getLsbD s (by decide), fun s t h e => ?_, fun s t h e => ?_,
    fun s t h e => ?_, fun s t h e => ?_⟩ <;> obtain ⟨p, hk⟩ := step_kept e
  · exact hk.ceiling h
  · exact hk.counters h
  · exact hk.queue h
  · exact hk.framing h
  · exact hk.lists h

/-- Settles O56. -/
theorem disposingRecordsWaitForTheNotice : Obligations.DisposingRecordsWaitForTheNotice := by
  unfold Obligations.DisposingRecordsWaitForTheNotice
  intro s t h e
  obtain ⟨p, hk⟩ := step_kept e
  exact hk.waiting h

/-- Settles O57: a record leaves DISPOSING only for the notice, so the account needs the waiting records' invariant beside
its own. -/
theorem framesAreAccountedFor : Obligations.FramesAreAccountedFor := by
  unfold Obligations.FramesAreAccountedFor
  intro s t hw h e
  obtain ⟨p, hk⟩ := step_kept e
  exact hk.frames hw h

/-- Settles O58. -/
theorem placementsStayApart : Obligations.PlacementsStayApart := by
  unfold Obligations.PlacementsStayApart
  intro s t h e
  obtain ⟨p, hk⟩ := step_kept e
  exact hk.placements h

/-- Settles O59. -/
theorem tracksStayApart : Obligations.TracksStayApart := by
  unfold Obligations.TracksStayApart
  intro s t h e
  obtain ⟨p, hk⟩ := step_kept e
  exact hk.tracks h

/-- Settles O60. -/
theorem tablesAndChecksumStayInOrder : Obligations.TablesAndChecksumStayInOrder := by
  unfold Obligations.TablesAndChecksumStayInOrder
  refine ⟨fun s t h e => ?_, fun s t h e => ?_⟩ <;> obtain ⟨p, hk⟩ := step_kept e
  · exact hk.tables h
  · exact hk.checksum h

/-- Settles O2. -/
theorem everyCommandCompletesAndKeepsQueue : Obligations.EveryCommandCompletesAndKeepsQueue := by
  unfold Obligations.EveryCommandCompletesAndKeepsQueue
  intro c s
  obtain ⟨t, e, hk⟩ := exec_kept c s
  exact ⟨t, e, hk.pending⟩

/-- Settles O1, by the two branches of `step`. -/
theorem stepRunsFrontCommand : Obligations.StepRunsFrontCommand := by
  unfold Obligations.StepRunsFrontCommand
  refine ⟨fun c rest s => rfl, fun s h => ?_⟩
  unfold step
  rw [h]

/-- Settles O53: with no placement, no frame, no track and no message, each invariant is read from the power-on values. -/
theorem powerOnHasEveryInvariant : Obligations.PowerOnHasEveryInvariant := by
  unfold Obligations.PowerOnHasEveryInvariant
  change (poweredOn 0 [] true).loadHoldSettled ∧ _
  refine ⟨?_, ⟨fun h => absurd h (by decide), fun _ => rfl⟩, Nat.le_refl 0, poweredOn_counters 0 [] true,
    ⟨Nat.zero_le _, Nat.zero_le _⟩, poweredOn_lists 0 [] true, trivial, poweredOn_waiting 0 [] true,
    poweredOn_frames 0 [] true, poweredOn_placements 0 [] true, ⟨Nat.zero_le _, List.Pairwise.nil⟩,
    poweredOn_tables 0 [] true, poweredOn_checksum 0 [] true⟩
  unfold State.loadHoldSettled bothOccupied
  simp [recIdx, freeRecord, ReelRecord.occupied]
  rfl

/-- Settles O4: the pin's fall leaves the power-on state on lane 0, and no other command but POWER_ON acts without power. -/
theorem nporFallAbandonsEverything : Obligations.NporFallAbandonsEverything := by
  unfold Obligations.NporFallAbandonsEverything
  refine ⟨fun s => ⟨_, rfl, rfl, rfl, rfl, rfl, rfl, rfl, fun lane u e => ?_⟩, fun c s hn hp hf => ?_⟩
  · obtain rfl := Host.Outcome.next.inj e
    exact ⟨rfl, rfl, rfl, rfl, rfl, rfl, rfl, rfl, rfl, rfl⟩
  · obtain ⟨f, e, -⟩ := exec_effect c hp hf
    rw [e]
    unfold whilePowered
    rw [hn]
    rfl

end Sys2Proof.Machine
end

section
/-! PROOFS. The computations that read no state: the clamped header (R5), offsets (R70, R71), interpolation (R127), repair
plans (R123 to R125), the fixed grade set (R149 to R152), fade (R144 to R147) and the disposition (R169). -/
namespace Sys2Proof.Machine

-- One thread a theorem is too many for the joined text under its memory limit.
set_option Elab.async false

/-! ## The reel header -/

theorem clampPixels_eq (v : Nat) :
    clampPixels v = if v < 256 then 256 else if 4096 < v then 4096 else v / 16 * 16 := by
  unfold clampPixels clampNat
  (repeat' split) <;> rfl

/-- Settles O21: each field's clamp is the nearer end of its range, and both ends of the pixels' range are multiples of 16. -/
theorem reelHeaderIsClamped : Obligations.ReelHeaderIsClamped := by
  unfold Obligations.ReelHeaderIsClamped
  intro h
  refine ⟨rfl, ?_, ?_, ?_, ?_, clampPixels_eq _, ?_⟩
  · show baseOf h.base = _
    unfold baseOf
    split <;> simp_all
  · show min 3 h.acid.toNat = _
    split <;> omega
  · show clampNat 1 8 h.holes.toNat = _
    unfold clampNat
    (repeat' split) <;> omega
  · rfl
  · show min 31 h.step.toNat = _
    split <;> omega

/-! ## Offsets -/

/-- Rounding to the nearest: what is left over is at most half the divisor. -/
theorem nearest_remainder (a p : Int) (hp : 0 < p) (h : Int) (hh : h = p / 2) :
    -p ≤ 2 * (a - (a + h) / p * p) ∧ 2 * (a - (a + h) / p * p) ≤ p := by
  have hdiv := Int.mul_ediv_add_emod (a + h) p
  have hlo := Int.emod_nonneg (a + h) hp.ne'
  have hhi := Int.emod_lt_of_pos (a + h) hp
  rw [mul_comm] at hdiv
  constructor <;> omega

theorem holeDev_bounds {p16 : Nat} (ref16 top : Nat) (hp : 0 < p16) :
    -(p16 : Int) ≤ 2 * holeDev p16 ref16 top ∧ 2 * holeDev p16 ref16 top ≤ p16 := by
  unfold holeDev holeSlot
  exact nearest_remainder _ _ (by omega) _ (by simp)

/-- No whole number of pitches lies nearer to the hole than its slot: another one is at least a pitch from the slot (R70). -/
theorem holeDev_nearest {p16 : Nat} (ref16 top : Nat) (hp : 0 < p16) (i : Int) :
    (holeDev p16 ref16 top).natAbs ≤ ((top : Int) * 16 - ref16 - i * p16).natAbs := by
  obtain ⟨hlo, hhi⟩ := holeDev_bounds ref16 top hp
  have hdev : (top : Int) * 16 - ref16 - i * p16 = holeDev p16 ref16 top + (holeSlot p16 ref16 top - i) * p16 := by
    unfold holeDev; ring
  rw [hdev]
  obtain h | h | h := lt_trichotomy (holeSlot p16 ref16 top - i) 0
  · have : (holeSlot p16 ref16 top - i) * p16 ≤ -1 * p16 := mul_le_mul_of_nonneg_right (by omega) (by omega)
    omega
  · rw [h]; simp
  · have : 1 * (p16 : Int) ≤ (holeSlot p16 ref16 top - i) * p16 := mul_le_mul_of_nonneg_right (by omega) (by omega)
    omega

theorem clampShift_natAbs (t : RegTable) (v : Int) : (clampShift t v).natAbs ≤ t.maxShift := by
  obtain ⟨h1, h2⟩ := clampInt_mem (lo := -(t.maxShift : Int)) (hi := t.maxShift) v (by omega)
  unfold clampShift
  omega

theorem measureGood_offsets (t : RegTable) (p16 : Nat) (first : Hole) (used : List Hole) (u : RegUnit) :
    (measureGood t p16 first used u).dx.natAbs ≤ t.maxShift ∧ (measureGood t p16 first used u).dy.natAbs ≤ t.maxShift := by
  unfold measureGood
  split
  · exact ⟨Nat.zero_le _, Nat.zero_le _⟩
  · exact ⟨clampShift_natAbs _ _, clampShift_natAbs _ _⟩

/-- Settles O48: the slot is a division rounded to the nearest, every offset is clamped or 0, and a held frame is measured by
`measureHeld`. -/
theorem offsetsComeFromTheNearestSlots : Obligations.OffsetsComeFromTheNearestSlots := by
  unfold Obligations.OffsetsComeFromTheNearestSlots
  refine ⟨fun p16 ref16 top hp => ⟨(holeDev_bounds ref16 top hp).1, (holeDev_bounds ref16 top hp).2,
    holeDev_nearest ref16 top hp⟩, fun t p16 e used u => ?_⟩
  have hheld : (measureHeld t u).dx.natAbs ≤ t.maxShift ∧ (measureHeld t u).dy.natAbs ≤ t.maxShift :=
    ⟨clampShift_natAbs _ _, clampShift_natAbs _ _⟩
  unfold measure
  split
  · exact ⟨hheld.1, hheld.2, fun _ => ⟨rfl, rfl, rfl, rfl⟩⟩
  · split
    · exact ⟨hheld.1, hheld.2, fun _ => ⟨rfl, rfl, rfl, rfl⟩⟩
    · next h =>
      obtain ⟨hx, hy⟩ := measureGood_offsets t p16 _ _ u
      exact ⟨hx, hy, fun hh => absurd hh h⟩

/-! ## Interpolation -/

/-- The rounded mean of two values weighted `n - t` and `t` lies in every range that holds both. -/
theorem weightedMean_mem {lo hi x y n t : Nat} (hn : 0 < n) (ht : t ≤ n) (h1 : lo ≤ x) (h2 : lo ≤ y) (h3 : x ≤ hi)
    (h4 : y ≤ hi) : lo ≤ (x * (n - t) + y * t + n / 2) / n ∧ (x * (n - t) + y * t + n / 2) / n ≤ hi := by
  have hsplit : ∀ z, z * n = z * (n - t) + z * t := fun z => by rw [← Nat.mul_add]; congr 1; omega
  have hx := Nat.mul_le_mul_right (n - t) h1
  have hy := Nat.mul_le_mul_right t h2
  have hx' := Nat.mul_le_mul_right (n - t) h3
  have hy' := Nat.mul_le_mul_right t h4
  refine ⟨(Nat.le_div_iff_mul_le hn).mpr ?_, Nat.lt_succ_iff.mp ((Nat.div_lt_iff_lt_mul hn).mpr ?_)⟩
  · rw [hsplit]; omega
  · rw [Nat.succ_mul, hsplit]; omega

theorem interpSample_toNat (a b : Sample) {n t : Nat} (hn : 0 < n) (ht : t ≤ n) :
    (interpSample a b n t).toNat = (a.toNat * (n - t) + b.toNat * t + n / 2) / n := by
  have hle := (weightedMean_mem (lo := 0) (hi := 65535) hn ht (Nat.zero_le a.toNat) (Nat.zero_le b.toNat) (by omega) (by omega)).2
  unfold interpSample
  rw [BitVec.toNat_ofNat]
  exact Nat.mod_eq_of_lt (by omega)

theorem rounded_mul_div {n : Nat} (hn : 0 < n) (x : Nat) : (x * n + n / 2) / n = x := by
  rw [Nat.add_comm, Nat.add_mul_div_right _ _ hn, Nat.div_eq_of_lt (Nat.div_lt_self hn (by decide)), Nat.zero_add]

/-- Settles O49: a weighted mean lies between the two values, and takes one of them where the other's weight is 0. -/
theorem interpolationStaysBetweenTheFlanks : Obligations.InterpolationStaysBetweenTheFlanks := by
  unfold Obligations.InterpolationStaysBetweenTheFlanks
  intro a b n t hn ht
  rw [interpSample_toNat a b hn ht]
  obtain ⟨hlo, hhi⟩ := weightedMean_mem hn ht (Nat.min_le_left a.toNat b.toNat) (Nat.min_le_right a.toNat b.toNat)
    (Nat.le_max_left a.toNat b.toNat) (Nat.le_max_right a.toNat b.toNat)
  refine ⟨hlo, hhi, BitVec.eq_of_toNat_eq ?_, BitVec.eq_of_toNat_eq ?_⟩
  · rw [interpSample_toNat a b hn (Nat.zero_le n), Nat.sub_zero, Nat.mul_zero, Nat.add_zero, rounded_mul_div hn]
  · rw [interpSample_toNat a b hn le_rfl, Nat.sub_self, Nat.mul_zero, Nat.zero_add, rounded_mul_div hn]

/-! ## Repair plans -/

theorem chargeBudget_length (ms : List (Method × Nat)) (left : Nat) (cut : Bool) :
    (chargeBudget ms left cut).1.length = ms.length := by
  induction ms generalizing left cut with
  | nil => rfl
  | cons x xs ih =>
    obtain ⟨m, area⟩ := x
    unfold chargeBudget
    (repeat' split) <;> simp [ih]

/-- Once the cut mark stands no repair is kept (R124). -/
theorem chargeBudget_cut (ms : List (Method × Nat)) (left : Nat) :
    (chargeBudget ms left true).2 = true ∧ ∀ m ∈ (chargeBudget ms left true).1, repairing m = false := by
  induction ms with
  | nil => simp [chargeBudget]
  | cons x xs ih =>
    obtain ⟨m, area⟩ := x
    obtain ⟨ih1, ih2⟩ := ih
    unfold chargeBudget
    split
    · simp only [if_true]
      exact ⟨ih1, by simpa [repairing] using ih2⟩
    · next h => exact ⟨ih1, List.forall_mem_cons.mpr ⟨by simpa using h, ih2⟩⟩

/-- The areas of the repairs a charge keeps. -/
def keptArea (ms : List Method) (areas : List Nat) : Nat :=
  (((ms.zip areas).filter fun x => repairing x.1).map fun x => x.2).sum

theorem keptArea_cons (m : Method) (ms : List Method) (a : Nat) (areas : List Nat) :
    keptArea (m :: ms) (a :: areas) = (if repairing m then a else 0) + keptArea ms areas := by
  unfold keptArea
  rw [List.zip_cons_cons, List.filter_cons]
  split <;> simp_all

theorem keptArea_of_none {ms : List Method} (h : ∀ m ∈ ms, repairing m = false) (areas : List Nat) :
    keptArea ms areas = 0 := by
  unfold keptArea
  rw [List.filter_eq_nil_iff.mpr]
  · rfl
  · intro x hx
    simpa using h x.1 (List.of_mem_zip hx).1

/-- The repairs a charge keeps fit the budget (R124). -/
theorem chargeBudget_area (ms : List (Method × Nat)) (left : Nat) (cut : Bool) :
    keptArea (chargeBudget ms left cut).1 (ms.map (·.2)) ≤ left := by
  induction ms generalizing left cut with
  | nil => exact Nat.zero_le _
  | cons x xs ih =>
    obtain ⟨m, area⟩ := x
    unfold chargeBudget
    split
    · next hm =>
      split
      · rw [List.map_cons, keptArea_cons]
        simpa [repairing] using ih left true
      · split
        · rw [List.map_cons, keptArea_cons, if_pos hm]
          have := ih (left - area) false
          omega
        · rw [List.map_cons, keptArea_cons]
          simpa [repairing] using ih left true
    · next hm =>
      rw [List.map_cons, keptArea_cons, if_neg hm]
      simpa using ih left cut

/-- A charge that begins uncut is cut exactly where it refuses a repair (R124). -/
theorem chargeBudget_cut_iff (ms : List (Method × Nat)) (left : Nat) (h : ∀ x ∈ ms, x.1 ≠ .noneBudget) :
    (chargeBudget ms left false).2 = true ↔ .noneBudget ∈ (chargeBudget ms left false).1 := by
  induction ms generalizing left with
  | nil => simp [chargeBudget]
  | cons x xs ih =>
    obtain ⟨m, area⟩ := x
    have hm : Method.noneBudget ≠ m := (h _ List.mem_cons_self).symm
    have hxs := fun y hy => h y (List.mem_cons_of_mem _ hy)
    unfold chargeBudget
    split
    · rw [if_neg (by decide)]
      split
      · simpa [hm] using ih (left - area) hxs
      · simpa using (chargeBudget_cut xs left).1
    · simpa [hm] using ih left hxs

/-- A charge keeps a region's method or refuses it for the budget (R124). -/
theorem mem_chargeBudget {ms : List (Method × Nat)} {left : Nat} {cut : Bool} {m : Method}
    (h : m ∈ (chargeBudget ms left cut).1) : m = .noneBudget ∨ m ∈ ms.map (·.1) := by
  induction ms generalizing left cut with
  | nil => simp [chargeBudget] at h
  | cons x xs ih =>
    obtain ⟨n, area⟩ := x
    have hcons : ∀ {y : Method} {left : Nat} {cut : Bool}, m ∈ y :: (chargeBudget xs left cut).1 → y = .noneBudget ∨ y = n →
        m = .noneBudget ∨ m ∈ n :: xs.map (·.1) := by
      intro y left cut hm hy
      obtain rfl | hm := List.mem_cons.mp hm
      · exact hy.imp_right fun e => by rw [e]; exact List.mem_cons_self
      · exact (ih hm).imp_right (List.mem_cons_of_mem _)
    unfold chargeBudget at h
    (repeat' split at h)
    · exact hcons h (.inl rfl)
    · exact hcons h (.inr rfl)
    · exact hcons h (.inl rfl)
    · exact hcons h (.inr rfl)

/-- The first substitution that is possible, another method where none is (R123). -/
def substOr (prev next : Bool) (m : Method) : Method := if prev then .substPrev else if next then .substNext else m

theorem chooseMethod_eq (h : ReelHeader) (n : Slot) (pred succ : Option Slot) (r : Region) :
    chooseMethod h n pred succ r = .noneTear ∨
    chooseMethod h n pred succ r = interpOrWide n.latch.defect.interpMax r ∨
    chooseMethod h n pred succ r =
      substOr (canSubst h n pred true r) (canSubst h n succ false r) (interpOrWide n.latch.defect.interpMax r) := by
  unfold chooseMethod
  split
  · exact .inl rfl
  · split
    · exact .inr (.inl rfl)
    · exact .inr (.inr rfl)
  · exact .inr (.inr rfl)

theorem interpOrWide_cases (n : Nat) (r : Region) : interpOrWide n r = .interp ∨ interpOrWide n r = .noneWide := by
  unfold interpOrWide
  split
  · exact .inl rfl
  · exact .inr rfl

/-- No method is refused for the budget before the charge, and a substitution needs its neighbour (R121, R123). -/
theorem chooseMethod_needs (h : ReelHeader) (n : Slot) (pred succ : Option Slot) (r : Region) :
    chooseMethod h n pred succ r ≠ .noneBudget ∧ (pred = none → chooseMethod h n pred succ r ≠ .substPrev) ∧
    (succ = none → chooseMethod h n pred succ r ≠ .substNext) := by
  have hsubst : ∀ {p q : Bool} {m : Method}, m = .interp ∨ m = .noneWide → substOr p q m ≠ .noneBudget ∧
      (p = false → substOr p q m ≠ .substPrev) ∧ (q = false → substOr p q m ≠ .substNext) := by
    intro p q m hm
    unfold substOr
    obtain rfl | rfl := hm <;> cases p <;> cases q <;> simp
  have hinterp := interpOrWide_cases n.latch.defect.interpMax r
  obtain e | e | e := chooseMethod_eq h n pred succ r <;> rw [e]
  · simp
  · obtain e | e := hinterp <;> rw [e] <;> simp
  · obtain ⟨h1, h2, h3⟩ := hsubst (p := canSubst h n pred true r) (q := canSubst h n succ false r) hinterp
    exact ⟨h1, fun hp => h2 (by rw [hp]; rfl), fun hs => h3 (by rw [hs]; rfl)⟩

/-- A planned method that the charge did not refuse is some region's own (R123, R124). -/
theorem mem_methods {h : ReelHeader} {k : Fin 4} {n : Slot} {pred succ : Option (Fin 4 × Slot)} {m : Method}
    (hm : m ∈ (makePlan h k n pred succ).methods) :
    m = .noneBudget ∨ ∃ r, chooseMethod h n (pred.map (·.2)) (succ.map (·.2)) r = m := by
  refine (mem_chargeBudget hm).imp_right fun hm => ?_
  simp only [List.map_map, List.mem_map, Function.comp_apply] at hm
  obtain ⟨r, -, e⟩ := hm
  exact ⟨r, e⟩

/-- Settles O50: the charge keeps one method a region, fits the budget, and refuses a repair exactly where it is cut. -/
theorem repairPlanKeepsTheBudget : Obligations.RepairPlanKeepsTheBudget := by
  unfold Obligations.RepairPlanKeepsTheBudget
  rintro h k n pred succ p rfl
  have hlen : (makePlan h k n pred succ).methods.length = n.regions.length := by simp [makePlan, chargeBudget_length]
  refine ⟨hlen, ?_, ?_, ?_, ?_, ?_⟩
  · rw [← hlen]
    exact (List.length_eq_length_filter_add repairing).symm
  · have := chargeBudget_area (n.regions.map fun r =>
      (chooseMethod h n (pred.map (·.2)) (succ.map (·.2)) r, regionArea r)) n.latch.defect.pixelBudget false
    rwa [List.map_map, keptArea, show ((·.2) ∘ fun r => (chooseMethod h n (pred.map (·.2)) (succ.map (·.2)) r,
      regionArea r)) = regionArea from rfl, List.zip_map_right, List.filter_map, List.map_map] at this
  · refine chargeBudget_cut_iff _ _ fun x hx => ?_
    obtain ⟨r, -, rfl⟩ := List.mem_map.mp hx
    exact (chooseMethod_needs ..).1
  · rintro rfl hm
    obtain e | ⟨r, e⟩ := mem_methods hm
    · exact absurd e (by decide)
    · exact (chooseMethod_needs ..).2.1 rfl e
  · rintro rfl hm
    obtain e | ⟨r, e⟩ := mem_methods hm
    · exact absurd e (by decide)
    · exact (chooseMethod_needs ..).2.2 rfl e

/-! ## The fixed grade set -/

theorem gradeVal_fixedSet {i : Nat} (h : i < 223) : gradeVal fixedSet i = fixedValue i := by
  simp [gradeVal, fixedSet, h]

theorem stageFade_unmoved {v : Nat} (h : v ≤ 65535) : stageFade ⟨0, 16384⟩ v = v := by
  unfold stageFade
  dsimp only
  split <;> omega

/-- A row that is 1 in its own channel and 0 in the others passes the channel (R150). -/
theorem rounded_unit {v : Nat} (h : v ≤ 65535) : (clampInt 0 65535 ((4096 * (v : Int) + 2048) / 4096)).toNat = v := by
  have : (4096 * (v : Int) + 2048) / 4096 = v := by omega
  rw [this]
  unfold clampInt
  (repeat' split) <;> omega

theorem stageMatrix_fixed {v : Rgb Nat} (hr : v.r ≤ 65535) (hg : v.g ≤ 65535) (hb : v.b ≤ 65535) :
    stageMatrix fixedSet 9 v = v.r ∧ stageMatrix fixedSet 12 v = v.g ∧ stageMatrix fixedSet 15 v = v.b := by
  unfold stageMatrix
  rw [gradeVal_fixedSet (by decide), gradeVal_fixedSet (by decide), gradeVal_fixedSet (by decide),
    gradeVal_fixedSet (by decide), gradeVal_fixedSet (by decide), gradeVal_fixedSet (by decide),
    gradeVal_fixedSet (by decide), gradeVal_fixedSet (by decide), gradeVal_fixedSet (by decide)]
  refine ⟨?_, ?_, ?_⟩
  · simpa [fixedValue] using rounded_unit hr
  · simpa [fixedValue] using rounded_unit hg
  · simpa [fixedValue] using rounded_unit hb

/-- The three curves have knot `j` at 1024 times `j` (R136). -/
theorem fixedValue_knot {base j : Nat} (hb : base = 18 ∨ base = 83 ∨ base = 148) (hj : j ≤ 64) :
    fixedValue (base + j) = 1024 * j := by
  unfold fixedValue
  obtain rfl | rfl | rfl := hb
  · rw [if_neg (by omega), if_neg (by omega), if_neg (by omega), if_neg (by omega),
      if_pos (by omega)]
    omega
  · rw [if_neg (by omega), if_neg (by omega), if_neg (by omega), if_neg (by omega), if_neg (by omega),
      if_pos (by omega)]
    omega
  · rw [if_neg (by omega), if_neg (by omega), if_neg (by omega), if_neg (by omega), if_neg (by omega), if_neg (by omega),
      if_pos (by omega)]
    omega

theorem stageCurve_fixed {base v : Nat} (hb : base = 18 ∨ base = 83 ∨ base = 148) (hv : v ≤ 65535) :
    stageCurve fixedSet base v = v := by
  have hlt : base + v / 1024 + 1 < 223 := by omega
  unfold stageCurve
  dsimp only
  rw [gradeVal_fixedSet (by omega), gradeVal_fixedSet hlt, fixedValue_knot hb (by omega), Nat.add_assoc,
    fixedValue_knot hb (by omega)]
  push_cast
  omega

theorem stageTrim_identity {v : Nat} (h : v ≤ 65535) : stageTrim 4096 0 (v : Int) = v := by
  have : ((v : Int) * (4096 : Nat) + 2048) / 4096 + 0 = v := by omega
  unfold stageTrim
  rw [this]
  unfold clampInt
  (repeat' split) <;> omega

/-- Settles O51: each of the four stages passes every sample. -/
theorem fixedSetPassesEveryPixel : Obligations.FixedSetPassesEveryPixel := by
  unfold Obligations.FixedSetPassesEveryPixel
  rintro ⟨r, g, b, ir⟩
  have hle : ∀ x : Sample, x.toNat ≤ 65535 := fun x => by omega
  obtain ⟨h1, h2, h3⟩ := stageMatrix_fixed (v := ⟨r.toNat, g.toNat, b.toNat⟩) (hle r) (hle g) (hle b)
  have htrim : identityTrim = ⟨⟨4096, 4096, 4096⟩, ⟨0, 0, 0⟩⟩ := rfl
  unfold gradePixel
  simp only [stageFade_unmoved (hle _), h1, h2, h3, stageCurve_fixed (.inl rfl) (hle r),
    stageCurve_fixed (.inr (.inl rfl)) (hle g), stageCurve_fixed (.inr (.inr rfl)) (hle b), htrim,
    stageTrim_identity (hle _), BitVec.ofNat_toNat, BitVec.setWidth_eq]

/-! ## Fade -/

/-- A step goes toward the target and not past it: half a divisor of rounding never makes up a whole one (R146). -/
theorem fadeStep_mem (k : Nat) (d : Int) : (0 ≤ d → 0 ≤ fadeStep k d ∧ fadeStep k d ≤ d) ∧
    (d < 0 → d ≤ fadeStep k d ∧ fadeStep k d ≤ 0) := by
  have hpow : (1 : Int) ≤ 2 ^ k := one_le_pow₀ (by decide)
  have hhalf : ∀ h : Int, h = (if k = 0 then 0 else 2 ^ (k - 1)) → 0 ≤ h ∧ h < 2 ^ k := by
    rintro h rfl
    split
    · omega
    · next hk =>
      have h2 : (2 : Int) ^ k = 2 * 2 ^ (k - 1) := by rw [← pow_succ']; congr 1; omega
      have : (1 : Int) ≤ 2 ^ (k - 1) := one_le_pow₀ (by decide)
      omega
  obtain ⟨h0, h1⟩ := hhalf _ rfl
  have hdiv : ∀ e h : Int, 0 ≤ e → 0 ≤ h → h < 2 ^ k → 0 ≤ (e + h) / 2 ^ k ∧ (e + h) / 2 ^ k ≤ e := by
    intro e h he hh hk
    refine ⟨Int.ediv_nonneg (by omega) (by omega), Int.lt_add_one_iff.mp (Int.ediv_lt_of_lt_mul (by omega) ?_)⟩
    nlinarith
  unfold fadeStep
  dsimp only
  refine ⟨fun hd => ?_, fun hd => ?_⟩
  · rw [if_pos hd]
    exact hdiv d _ hd h0 h1
  · rw [if_neg (by omega)]
    obtain ⟨h2, h3⟩ := hdiv (-d) _ (by omega) h0 h1
    omega

theorem fadeMove_mem (k prev target : Nat) :
    min prev target ≤ fadeMove k prev target ∧ fadeMove k prev target ≤ max prev target := by
  obtain ⟨hup, hdown⟩ := fadeStep_mem k ((target : Int) - prev)
  unfold fadeMove
  by_cases h : 0 ≤ (target : Int) - prev
  · have := hup h
    omega
  · have := hdown (by omega)
    omega

theorem boundGain_mem (p : FadeParams) (g : Nat) : p.gmin ≤ boundGain p g ∧ boundGain p g ≤ max p.gmin p.gmax :=
  clampNat_mem g (le_max_left _ _)

theorem targetGain_mem (p : FadeParams) (span : Nat) :
    p.gmin ≤ targetGain p span ∧ targetGain p span ≤ max p.gmin p.gmax := by
  unfold targetGain
  omega

/-- Settles O52: the gain is a bounded one, the target gain, or moved from one toward the other. -/
theorem fadeGainStaysInItsBounds : Obligations.FadeGainStaysInItsBounds := by
  unfold Obligations.FadeGainStaysInItsBounds
  refine ⟨fun p h c => ?_, fadeMove_mem⟩
  unfold fadeChannel
  split
  · dsimp only
    split
    · exact boundGain_mem p _
    · split
      · exact targetGain_mem p _
      · have hprev := boundGain_mem p c.gain
        have htarget := targetGain_mem p (highPoint h p.highPm - lowPoint h p.lowPm p.highPm)
        have hmove := fadeMove_mem p.k (boundGain p c.gain) (targetGain p (highPoint h p.highPm - lowPoint h p.lowPm p.highPm))
        exact ⟨(le_min hprev.1 htarget.1).trans hmove.1, hmove.2.trans (max_le hprev.2 htarget.2)⟩
  · exact boundGain_mem p _

/-! ## The disposition -/

/-- The record of each end of a disposition, with its condition (R169). -/
theorem dispose_ends (s : Shelving) (r : ReelRecord) :
    ((policyOf s r).rescan = true → dispose s r = (writeDisposition r (policyOf s r) .rescan .none 0 0, s)) ∧
    ((policyOf s r).rescan = false →
      ((∃ q ∈ s.placements, q.reelId = r.header.reelId) →
        dispose s r = (writeDisposition r (policyOf s r) .unplaced .duplicate 0 0, s)) ∧
      ((∀ q ∈ s.placements, q.reelId ≠ r.header.reelId) →
        (16 ≤ s.placements.length → dispose s r = (writeDisposition r (policyOf s r) .unplaced .listFull 0 0, s)) ∧
        (s.placements.length < 16 →
          (chooseBay s r.header.base (policyOf s r).cls (policyOf s r).hold = none →
            dispose s r = (writeDisposition r (policyOf s r) .unplaced .noBay 0 0, s)) ∧
          (∀ b, chooseBay s r.header.base (policyOf s r).cls (policyOf s r).hold = some b →
            dispose s r = (writeDisposition r (policyOf s r) .placed .none b.val (takeId s),
              appendPlacement s r (policyOf s r) b))))) := by
  unfold dispose
  dsimp only
  refine ⟨fun h => if_pos h, fun h => ?_⟩
  rw [if_neg (by simp [h])]
  refine ⟨fun hq => if_pos (by simpa using hq), fun hq => ?_⟩
  rw [if_neg (by simpa using hq)]
  refine ⟨fun hl => if_pos hl, fun hl => ?_⟩
  rw [if_neg (show ¬Config.maxPlacements ≤ s.placements.length from Nat.not_le.mpr hl)]
  exact ⟨fun hb => by rw [hb], fun b hb => by rw [hb]⟩

/-- A disposition that places nothing leaves the shelving unit, and no bay and no id in the record (R29, R169). -/
theorem dispose_of_not_placed {s : Shelving} {r : ReelRecord} (h : (dispose s r).1.outcome ≠ .placed) :
    (dispose s r).2 = s ∧ (dispose s r).1.bay = 0 ∧ (dispose s r).1.placementId = 0 := by
  revert h
  unfold dispose
  dsimp only
  (repeat' split) <;> simp [writeDisposition]

/-- Settles O46, by the end that the record and the shelving unit meet. -/
theorem dispositionHasFiveEnds : Obligations.DispositionHasFiveEnds := by
  unfold Obligations.DispositionHasFiveEnds
  rintro s r d u p hd rfl
  obtain ⟨hrescan, hnot⟩ := dispose_ends s r
  obtain ⟨o, why, bay, id, hrec⟩ := dispose_record s r
  have hplaced := dispose_of_not_placed (s := s) (r := r)
  rw [hd] at hrescan hnot hplaced
  rw [hd] at hrec
  refine ⟨by subst hrec; exact ⟨rfl, rfl, rfl, rfl, rfl⟩, hplaced, fun h => ?_, fun h hq => ?_, fun h hq =>
    ⟨fun hl => ?_, fun hl => ⟨fun hb => ?_, fun b hb => ?_⟩⟩⟩
  · obtain ⟨rfl, rfl⟩ := Prod.mk.inj (hrescan h)
    exact ⟨rfl, rfl⟩
  · obtain ⟨rfl, rfl⟩ := Prod.mk.inj ((hnot h).1 hq)
    exact ⟨rfl, rfl⟩
  · obtain ⟨rfl, rfl⟩ := Prod.mk.inj (((hnot h).2 hq).1 hl)
    exact ⟨rfl, rfl⟩
  · obtain ⟨rfl, rfl⟩ := Prod.mk.inj ((((hnot h).2 hq).2 hl).1 hb)
    exact ⟨rfl, rfl⟩
  · obtain ⟨rfl, rfl⟩ := Prod.mk.inj ((((hnot h).2 hq).2 hl).2 b hb)
    exact ⟨rfl, rfl, rfl, rfl, rfl, rfl, rfl⟩

end Sys2Proof.Machine
end

section
/-! PROOFS. The layouts of chapter 11 as sums: a word put together from fields that do not overlap is the sum of its fields,
and each cell and message is read off it (R15, R17, R18, R173, R196 to R199). -/
namespace Sys2Proof.Machine

-- One thread a theorem is too many for the joined text under its memory limit.
set_option Elab.async false

/-! ## A command under power -/

theorem whilePowered_on {f : State → State} {s : State} (hn : s.npor = true) : whilePowered f s = .next (f s) := by
  unfold whilePowered
  rw [if_pos hn]

/-- A command's effect under power. -/
theorem exec_powered {c : Instr} {f : State → State} {s : State} (h : exec c = whilePowered f) (hn : s.npor = true) :
    exec c s = .next (f s) := by
  rw [h, whilePowered_on hn]

/-! ## A word as the sum of its fields -/

/-- The word spells the number, and its lowest `l` bits are still free. -/
structure Packed (x : Word) (n l : Nat) : Prop where
  toNat : x.toNat = n
  free : 2 ^ l ∣ n
  width : l ≤ 32

theorem fld_toNat {v l w : Nat} (hv : v < 2 ^ w) (hl : l + w ≤ 32) : (fld v l).toNat = v * 2 ^ l := by
  have hlt : v * 2 ^ l < 2 ^ 32 := calc
    v * 2 ^ l < 2 ^ w * 2 ^ l := Nat.mul_lt_mul_of_pos_right hv (Nat.two_pow_pos l)
    _ = 2 ^ (l + w) := by rw [← pow_add, Nat.add_comm]
    _ ≤ 2 ^ 32 := Nat.pow_le_pow_right (by decide) hl
  unfold fld
  rw [BitVec.toNat_ofNat, Nat.shiftLeft_eq]
  exact Nat.mod_eq_of_lt hlt

/-- The topmost field of a word, `w` bits wide at bit `l`. -/
theorem Packed.top {v : Nat} (l w : Nat) (hv : v < 2 ^ w) (hl : l + w ≤ 32 := by decide) : Packed (fld v l) (v * 2 ^ l) l :=
  ⟨fld_toNat hv hl, Nat.dvd_mul_left _ _, by omega⟩

/-- One field more, below the others. -/
theorem Packed.or {x : Word} {n k v : Nat} (h : Packed x n k) (l w : Nat) (hv : v < 2 ^ w)
    (hl : l + w ≤ k := by decide) :
    Packed (x ||| fld v l) (n + v * 2 ^ l) l := by
  obtain ⟨hx, ⟨m, hm⟩, hk⟩ := h
  have hlt : v * 2 ^ l < 2 ^ k := calc
    v * 2 ^ l < 2 ^ w * 2 ^ l := Nat.mul_lt_mul_of_pos_right hv (Nat.two_pow_pos l)
    _ = 2 ^ (l + w) := by rw [← pow_add, Nat.add_comm]
    _ ≤ 2 ^ k := Nat.pow_le_pow_right (by decide) hl
  refine ⟨?_, ?_, by omega⟩
  · rw [BitVec.toNat_or, hx, fld_toNat hv (by omega), hm, Nat.two_pow_add_eq_or_of_lt hlt]
  · exact Nat.dvd_add (hm ▸ (pow_dvd_pow 2 (by omega)).mul_right m) (Nat.dvd_mul_left _ _)

theorem flag_lt (b : Bool) : flag b < 2 ^ 1 := by cases b <;> decide

theorem flag_mul (b : Bool) (n : Nat) : flag b * n = if b then n else 0 := by cases b <;> simp [flag]

/-- One flag more, below the others. -/
theorem Packed.orFlag {x : Word} {n k : Nat} (h : Packed x n k) (l : Nat) (b : Bool) (hl : l + 1 ≤ k := by decide) :
    Packed (x ||| fld (flag b) l) (n + if b then 2 ^ l else 0) l := by
  rw [← flag_mul]
  exact h.or l 1 (flag_lt b) hl

theorem classCode_lt (c : CondClass) : classCode c < 2 ^ 3 := by cases c <;> decide
theorem outcomeCode_lt (o : ReelOutcome) : outcomeCode o < 2 ^ 2 := by cases o <;> decide
theorem reasonCode_lt (x : Reason) : reasonCode x < 2 ^ 3 := by cases x <;> decide
theorem baseCode_lt (b : BaseType) : baseCode b < 2 ^ 2 := by cases b <;> decide
theorem rank_lt (c : SpeedClass) : rank c < 2 ^ 2 := by cases c <;> decide

/-! ## The outgoing cells -/

/-- Settles O27: the directive's four fields do not overlap. -/
theorem directiveCellCarriesTheDirective : Obligations.DirectiveCellCarriesTheDirective := by
  unfold Obligations.DirectiveCellCarriesTheDirective
  intro s hn hstep
  refine ⟨_, _, exec_powered rfl hn, rfl, ?_⟩
  exact ((((Packed.top 28 4 (by decide)).or 26 2 (rank_lt s.xport.cls)).or 16 5 (by omega)).orFlag 8 s.xport.loadHold).toNat

theorem signed16_lt (v : Int) : signed16 v < 2 ^ 16 := (BitVec.ofInt 16 v).isLt

/-- Two offsets of 16 bits in a word read back as the signed values (R198). -/
theorem offsets_read {x : Word} {dx dy : Int} (hx : Packed x (signed16 dx * 2 ^ 16 + signed16 dy * 2 ^ 0) 0)
    (h1 : dx.natAbs ≤ 128) (h2 : dy.natAbs ≤ 128) :
    (x.extractLsb' 16 16).toInt = dx ∧ (x.extractLsb' 0 16).toInt = dy := by
  have hlt := signed16_lt dx
  have hlt' := signed16_lt dy
  have hdx : x.extractLsb' 16 16 = BitVec.ofInt 16 dx := BitVec.eq_of_toNat_eq (by
    rw [BitVec.extractLsb'_toNat, hx.toNat, Nat.shiftRight_eq_div_pow]
    show _ = signed16 dx
    omega)
  have hdy : x.extractLsb' 0 16 = BitVec.ofInt 16 dy := BitVec.eq_of_toNat_eq (by
    rw [BitVec.extractLsb'_toNat, hx.toNat, Nat.shiftRight_zero]
    show _ = signed16 dy
    omega)
  rw [hdx, hdy, BitVec.toInt_ofInt, BitVec.toInt_ofInt]
  constructor <;> rw [Int.bmod_eq_of_le] <;> omega

theorem packed_pair {a b : Nat} (ha : a < 2 ^ 16) (hb : b < 2 ^ 16) :
    (fld a 16 ||| fld b 0).toNat = a * 2 ^ 16 + b := by
  have := ((Packed.top 16 16 ha).or 0 16 hb).toNat
  simpa using this

/-- The two words of the i-th pixel stand at 2i and 2i + 1 of a LINE's payload (R196). -/
theorem pixelWords_getElem {px : List Pixel} {i : Nat} {p : Pixel} (h : px[i]? = some p) :
    (px.flatMap pixelWords)[2 * i]? = some (fld p.r.toNat 16 ||| fld p.g.toNat 0) ∧
    (px.flatMap pixelWords)[2 * i + 1]? = some (fld p.b.toNat 16 ||| fld p.ir.toNat 0) := by
  induction px generalizing i with
  | nil => simp at h
  | cons q qs ih =>
    cases i with
    | zero =>
      obtain rfl := Option.some.inj h
      exact ⟨rfl, rfl⟩
    | succ i => exact ih h

theorem pixelWords_length (px : List Pixel) : (px.flatMap pixelWords).length = 2 * px.length := by
  induction px with
  | nil => rfl
  | cons q qs ih =>
    rw [List.flatMap_cons, List.length_append, ih, List.length_cons]
    simp only [pixelWords, List.length_cons, List.length_nil]
    omega

theorem sealCell_check (ws : List Word) : (sealCell ws).check = linkCheck (sealCell ws).words := rfl

theorem ingestCellOf_words (attention : Nat) (summary : Bool) (slot : Option Word) (lane : BitVec 4) (e : Emitted) :
    (ingestCellOf attention summary slot lane e).words =
      (fld (emittedKind e) 28 ||| fld attention 25 ||| fld (flag summary) 24 ||| fld (flag slot.isSome) 23 |||
        fld (countField e) 0) :: slot.getD 0 :: outgoingPayload attention summary slot lane e := rfl

/-- The header of an outgoing cell as the sum of its fields (R196). -/
theorem outgoingHeader_toNat {attention q : Nat} (summary : Bool) (slot : Option Word) {e : Emitted} (ha : attention ≤ 7)
    (hq : countField e ≤ q) (hq' : q ≤ 255) :
    (fld (emittedKind e) 28 ||| fld attention 25 ||| fld (flag summary) 24 ||| fld (flag slot.isSome) 23 |||
      fld (countField e) 0).toNat = emittedKind e * 2 ^ 28 + attention * 2 ^ 25 + (if summary then 2 ^ 24 else 0) +
        (if slot.isSome then 2 ^ 23 else 0) + countField e := by
  have hkind : emittedKind e < 2 ^ 4 := by cases e <;> simp [emittedKind]
  have := (((((Packed.top 28 4 hkind).or 25 3 (v := attention) (by omega)).orFlag 24 summary).orFlag 23
    slot.isSome).or 0 8 (v := countField e) (by omega)).toNat
  simpa using this

theorem headerTail_toNat (lane : BitVec 4) {h : ReelHeader} (h1 : h.acid ≤ 3) (h2 : h.holes ≤ 8) (h3 : h.step ≤ 31) :
    (fld (baseCode h.base) 30 ||| fld lane.toNat 24 ||| fld h.acid 16 ||| fld h.holes 8 ||| fld h.step 0).toNat =
      baseCode h.base * 2 ^ 30 + lane.toNat * 2 ^ 24 + h.acid * 2 ^ 16 + h.holes * 2 ^ 8 + h.step := by
  have := (((((Packed.top 30 2 (baseCode_lt h.base)).or 24 4 lane.isLt).or 16 2 (v := h.acid) (by omega)).or 8 4
    (v := h.holes) (by omega)).or 0 5 (v := h.step) (by omega)).toNat
  simpa using this

theorem statusFlags_toNat {f : FrameStatus} (hc : f.confidence ≤ 64) :
    (fld f.confidence 24 ||| fld (flag f.untreated) 4 ||| fld (flag f.spliceBefore) 3 ||| fld (flag f.exposureChanged) 2 |||
      fld (flag f.shiftClamped) 1 ||| fld (flag f.regHeld) 0).toNat =
      f.confidence * 2 ^ 24 + (if f.untreated then 16 else 0) + (if f.spliceBefore then 8 else 0) +
        (if f.exposureChanged then 4 else 0) + (if f.shiftClamped then 2 else 0) + (if f.regHeld then 1 else 0) :=
  ((((((Packed.top 24 7 (v := f.confidence) (by omega)).orFlag 4 f.untreated).orFlag 3 f.spliceBefore).orFlag 2
    f.exposureChanged).orFlag 1 f.shiftClamped).orFlag 0 f.regHeld).toNat

theorem lossWord_toNat {r : RepairSummary} (h : r.lost ≤ 65535) :
    (fld r.lost 16 ||| fld (flag r.aborted) 2 ||| fld (flag r.overflow) 1 ||| fld (flag r.cut) 0).toNat =
      r.lost * 2 ^ 16 + (if r.aborted then 4 else 0) + (if r.overflow then 2 else 0) + (if r.cut then 1 else 0) :=
  ((((Packed.top 16 16 (v := r.lost) (by omega)).orFlag 2 r.aborted).orFlag 1 r.overflow).orFlag 0 r.cut).toNat

/-- A LINE's count field is q for 16(q + 1) pixels, and 0 for every other kind (R196). -/
theorem countField_eq {e : Emitted} {q : Nat} (h : ∀ px, e = .line px → px.length = 16 * (q + 1)) :
    countField e = match e with
      | .line _ => q
      | _ => 0 := by
  cases e with
  | line px =>
    show px.length / 16 - 1 = q
    rw [h px rfl]
    omega
  | _ => rfl

theorem countField_le {e : Emitted} {q : Nat} (h : ∀ px, e = .line px → px.length = 16 * (q + 1)) : countField e ≤ q := by
  rw [countField_eq h]
  split <;> omega

/-- Settles O28: the header's fields do not overlap, and the payload is read kind by kind. -/
theorem outgoingCellLayout : Obligations.OutgoingCellLayout := by
  unfold Obligations.OutgoingCellLayout
  refine ⟨fun attention summary slot lane e q ha hq hpx => ?_, fun attention summary slot lane => ⟨rfl, rfl, rfl, ?_, ?_, ?_, ?_⟩⟩
  · refine ⟨_, ingestCellOf_words .., ?_, sealCell_check _⟩
    rw [outgoingHeader_toNat summary slot ha (countField_le hpx) hq, countField_eq hpx]
    cases e <;> rfl
  · intro h h1 h2 h3 h4 h5
    refine ⟨_, _, rfl, ?_, packed_pair (by omega) (by omega)⟩
    rw [headerTail_toNat lane h1 h2 h3]
    cases h.base <;> rfl
  · intro f hc hx hy hrb hrg hgb hgg hbb hbg
    have hpair : Packed (fld (signed16 f.dx) 16 ||| fld (signed16 f.dy) 0) _ 0 :=
      (Packed.top 16 16 (signed16_lt f.dx)).or 0 16 (signed16_lt f.dy)
    obtain ⟨hdx, hdy⟩ := offsets_read hpair hx hy
    exact ⟨_, _, _, _, _, rfl, hdx, hdy, statusFlags_toNat hc, packed_pair (by omega) (by omega),
      packed_pair (by omega) (by omega), packed_pair (by omega) (by omega)⟩
  · intro px
    refine ⟨pixelWords_length px, fun i p hp => ?_⟩
    obtain ⟨h1, h2⟩ := pixelWords_getElem hp
    exact ⟨_, _, h1, h2, packed_pair p.r.isLt p.g.isLt, packed_pair p.b.isLt p.ir.isLt⟩
  · intro r h1 h2 h3
    exact ⟨_, _, rfl, packed_pair (by omega) (by omega), lossWord_toNat h3⟩

/-! ## Notices and records -/

theorem endNumber_eq (c o n : Nat) (r : ReelRecord) :
    endNumber c o n r = classCode r.finalClass * 2 ^ c + outcomeCode r.outcome * 2 ^ o + reasonCode r.reason * 2 ^ n := by
  unfold endNumber
  cases r.finalClass <;> cases r.outcome <;> cases r.reason <;> rfl

theorem noticeWords_layout {lane : BitVec 4} {r : ReelRecord} (hp : r.placementId ≤ 255) (hb : r.bay ≤ 63) :
    noticeLayout lane r (noticeWords lane r) := by
  refine ⟨_, _, rfl, ?_, ?_⟩
  · have := ((((((Packed.top 24 8 (v := r.placementId) (by omega)).or 16 6 (v := r.bay) (by omega)).or 12 4 lane.isLt).or 8 2
      (outcomeCode_lt r.outcome)).or 4 3 (reasonCode_lt r.reason)).or 0 3 (classCode_lt r.finalClass)).toNat
    refine this.trans ?_
    rw [endNumber_eq]
    omega
  · exact ((Packed.top 1 1 (flag_lt r.rescan)).orFlag 0 r.hold).toNat.trans (by rw [flag_mul]; rfl)

theorem natWord_toNat {v : Nat} (h : v < 2 ^ 32) : (natWord v).toNat = v := by
  unfold natWord
  rw [BitVec.toNat_ofNat]
  exact Nat.mod_eq_of_lt h

theorem shrinkageWord_reads {v : Option Int} (h : ∀ x, v = some x → x.natAbs < 2 ^ 31) :
    readsShrinkage v (shrinkageWord v) := by
  refine ⟨?_, ?_⟩
  · rintro rfl; rfl
  · rintro x rfl
    have := h x rfl
    show (BitVec.ofInt 32 x).toInt = x
    rw [BitVec.toInt_ofInt, Int.bmod_eq_of_le] <;> omega

/-- The number of a record's state and acquisition sub-state at the top of a READ_REEL reply's word 2 (R199). -/
theorem stateCode_lt (x : ReelState) : stateCode x < 2 ^ 2 := by cases x <;> simp [stateCode]

theorem acqCode_lt (x : ReelState) : acqCode x < 2 ^ 4 := by
  cases x with
  | active a => cases a <;> simp [acqCode]
  | _ => simp [acqCode]

theorem acqOutcomeCode_lt (x : AcqOutcome) : acqOutcomeCode x < 2 ^ 2 := by cases x <;> decide

theorem stateWord_toNat (r : ReelRecord) :
    (fld (stateCode r.state) 28 ||| fld (acqCode r.state) 24 ||| fld (acqOutcomeCode r.acqOutcome) 20 |||
      fld (classCode r.finalClass) 16 ||| fld (outcomeCode r.outcome) 12 ||| fld (reasonCode r.reason) 8 |||
      fld (flag (decide (r.gradeSel = .programmed))) 3 ||| fld (flag r.rescan) 2 ||| fld (flag r.hold) 1 |||
      fld (flag r.closeMissing) 0).toNat =
    stateCode r.state * 2 ^ 28 + acqCode r.state * 2 ^ 24 + acqOutcomeCode r.acqOutcome * 2 ^ 20 + endNumber 16 12 8 r +
      (if r.gradeSel = .programmed then 8 else 0) + (if r.rescan then 4 else 0) + (if r.hold then 2 else 0) +
      (if r.closeMissing then 1 else 0) := by
  have := ((((((((((Packed.top 28 2 (stateCode_lt r.state)).or 24 4 (acqCode_lt r.state)).or 20 2
    (acqOutcomeCode_lt r.acqOutcome)).or 16 3 (classCode_lt r.finalClass)).or 12 2 (outcomeCode_lt r.outcome)).or 8 3
    (reasonCode_lt r.reason)).orFlag 3 (decide (r.gradeSel = .programmed))).orFlag 2 r.rescan).orFlag 1 r.hold).orFlag 0
    r.closeMissing).toNat
  refine this.trans ?_
  rw [endNumber_eq]
  simp only [decide_eq_true_eq, Nat.reducePow]
  omega

theorem reelWords_layout {r : ReelRecord} (h : r.fitsItsFields) : reelLayout r (reelWords r) := by
  obtain ⟨h1, h2, h3, h4, h5, h6, h7, h8, h9, h10, h11, h12⟩ := h
  refine ⟨_, _, _, _, _, _, _, _, counterWords r.counters, rfl, ?_, ?_, packed_pair (by omega) (by omega), ?_,
    natWord_toNat h8, shrinkageWord_reads h10, shrinkageWord_reads h11, natWord_toNat (by omega), ?_⟩
  · rw [stateWord_toNat]
    have hs : stateCode r.state * 2 ^ 28 + acqCode r.state * 2 ^ 24 = match r.state with
        | .free => 0 * 2 ^ 28 + 15 * 2 ^ 24
        | .active .acquiring => 1 * 2 ^ 28 + 0 * 2 ^ 24
        | .active .lockedCollecting => 1 * 2 ^ 28 + 1 * 2 ^ 24
        | .active .locked => 1 * 2 ^ 28 + 2 * 2 ^ 24
        | .active .failed => 1 * 2 ^ 28 + 3 * 2 ^ 24
        | .draining => 2 * 2 ^ 28 + 15 * 2 ^ 24
        | .disposing => 3 * 2 ^ 28 + 15 * 2 ^ 24 := by
      cases r.state with
      | active a => cases a <;> rfl
      | _ => rfl
    rw [hs]
    cases r.acqOutcome <;> rfl
  · refine (headerTail_toNat 0 h1 h2 h3).trans ?_
    cases r.header.base <;> rfl
  · have := (((Packed.top 24 8 (v := r.placementId) (by omega)).or 16 8 (v := r.bay) (by omega)).or 0 16
      r.gradeCheck.isLt).toNat
    simpa using this
  · unfold counterWords
    rw [List.map_map]
    refine (List.map_congr_left fun n hn => ?_).trans (List.map_id _)
    exact natWord_toNat (h12 n hn)

end Sys2Proof.Machine
end

section
/-! PROOFS. The power-on values (R201) and the cells the receive state disregards (R10). -/
namespace Sys2Proof.Machine

-- One thread a theorem is too many for the joined text under its memory limit.
set_option Elab.async false

theorem poweredOn_programmed (lane : BitVec 4) (p : List Instr) (n : Bool) :
    (poweredOn lane p n).grade.progCheck = gradeChecksum (List.replicate 223 0) := by
  simp [poweredOn, powerOnState, zeroGradeSet, Vector.toList_replicate]

theorem flatMap_replicate_zeros {α : Type} {f : α → List Word} {a : α} (h : f a = [0, 0]) (n : Nat) :
    (List.replicate n a).flatMap f = List.replicate (2 * n) 0 := by
  induction n with
  | zero => rfl
  | succ n ih => rw [List.replicate_succ, List.flatMap_cons, ih, h]; rfl

theorem poweredOn_words (lane : BitVec 4) (p : List Instr) (n : Bool) :
    tableWords (poweredOn lane p n) 5 = List.replicate 48 0 ∧ tableWords (poweredOn lane p n) 6 = List.replicate 128 0 := by
  constructor
  · show ((Vector.replicate 24 endEntry).toList.flatMap policyWords) = _
    rw [Vector.toList_replicate, flatMap_replicate_zeros (by decide)]
  · show ((Vector.replicate 64 offBay).toList.flatMap bayWords) = _
    rw [Vector.toList_replicate, flatMap_replicate_zeros (by decide)]

/-- After power-on only RESET_SEEN is on in the condition word, and CONDITION_CHANGE alone is pending (R192, R193). -/
theorem poweredOn_condition (lane : BitVec 4) (p : List Instr) (n : Bool) :
    conditionWord (poweredOn lane p n) = 0x400 ∧ attentionCode (poweredOn lane p n) = 7 := by
  have hactive : activeRec (poweredOn lane p n) = none := by
    rw [activeRec_eq_none]; intro q; rw [poweredOn_reel]; rfl
  have hlocked : acqLocked (poweredOn lane p n) = false := by simp [acqLocked, recIdx, freeRecord]
  have htainted : windowTainted (poweredOn lane p n) = false := by simp [windowTainted, slotIdx, freeSlot]
  have hbits : conditionBits (poweredOn lane p n) = List.replicate 10 false ++ [true] := by
    unfold conditionBits
    rw [hactive, hlocked, htainted]
    rfl
  have hcauses : causeBits (poweredOn lane p n) = List.replicate 6 false ++ [true] := rfl
  constructor
  · unfold conditionWord
    rw [hbits]
    decide
  · unfold attentionCode
    rw [hcauses]
    decide

/-- Settles O3. -/
theorem powerOnSetsEveryBlock : Obligations.PowerOnSetsEveryBlock := by
  unfold Obligations.PowerOnSetsEveryBlock
  intro lane s
  have hreel := poweredOn_reel lane s.pending true
  have hslot := poweredOn_slot lane s.pending true
  have hcheck := poweredOn_programmed lane s.pending true
  obtain ⟨hpolicy, hbays⟩ := poweredOn_words lane s.pending true
  obtain ⟨hcond, hatt⟩ := poweredOn_condition lane s.pending true
  refine ⟨poweredOn lane s.pending true, rfl, rfl, rfl, rfl, rfl, rfl, rfl, rfl,
    fun r => by rw [hreel]; exact ⟨rfl, rfl, rfl, rfl, rfl, rfl⟩, ⟨rfl, rfl, rfl, rfl⟩, rfl,
    fun k => by rw [hslot]; rfl, ?_⟩
  exact ⟨rfl, rfl, rfl, rfl, rfl, rfl, rfl, rfl, rfl, rfl, rfl, rfl, rfl, rfl, rfl, rfl, rfl, rfl, rfl, rfl, rfl, rfl, rfl,
    rfl, rfl, rfl, rfl, rfl, hcheck, rfl, rfl, rfl, rfl, rfl, hpolicy, hbays, rfl, rfl, rfl, rfl, rfl, rfl, rfl, rfl, rfl,
    rfl, hcond, hatt⟩

/-- A cell whose work is the identity settles to the state itself (R192). -/
theorem settle_self {s : State} (h : s.loadHoldSettled) : settle s s = s := settle_same h rfl rfl rfl rfl rfl rfl rfl rfl

/-- Settles O10: what the receive state disregards changes nothing, and the event's end changes nothing of that. -/
theorem strayCellsAreDisregarded : Obligations.StrayCellsAreDisregarded := by
  unfold Obligations.StrayCellsAreDisregarded
  refine ⟨fun s => by show Host.Outcome.next (if s.npor then s else s) = _; rw [ite_self], fun s px hn hs =>
    ⟨fun hrx => ?_, fun hrx => ?_, fun hrx => ?_⟩⟩
  · have hline : takeLine px s = s := by unfold takeLine; obtain h | h := hrx <;> rw [h]
    refine (exec_powered rfl hn).trans (congrArg _ ?_)
    rw [hline]
    exact settle_self hs
  · have hclose : takeFrameClose s = s := by unfold takeFrameClose; rw [hrx]
    refine (exec_powered rfl hn).trans (congrArg _ ?_)
    rw [hclose]
    exact settle_self hs
  · have hclose : takeFrameClose s = setRx .between s := by unfold takeFrameClose; rw [hrx]
    refine (exec_powered rfl hn).trans (congrArg _ ?_)
    rw [hclose]
    exact settle_same hs rfl rfl rfl rfl rfl rfl rfl rfl

end Sys2Proof.Machine
end

section
/-! PROOFS. What no cell of the scan port and no emission event changes: the terms of `sameChannel` and `sameTables` as one
value, and that each shared operation keeps it. -/
namespace Sys2Proof.Machine

-- One thread a theorem is too many for the joined text under its memory limit.
set_option Elab.async false

/-- The terms of `sameChannel` and `sameTables` as one value, so that a chain of operations is a chain of rewrites. -/
def fixedOf (s : State) :=
  ((s.pending, s.npor, { s.link with rx := .between }),
   (s.svc.framing, s.svc.pair, s.svc.mask, s.svc.copies, s.svc.faultKind, s.svc.faultCount, s.svc.stray, s.svc.resetSeen),
   (s.reg.table, s.xport.table, s.defect.table, s.grade.prog, s.grade.progCheck, s.grade.sel, s.shelf.policy, s.shelf.bays))

theorem fixedOf_eq_iff {s t : State} : fixedOf t = fixedOf s ↔ sameChannel s t ∧ sameTables s t := by
  simp only [fixedOf, sameChannel, sameTables, Prod.mk.injEq, LinkUnit.mk.injEq]
  tauto

section
variable (s : State) (k : Fin 4) (r : Fin 2)

@[simp] theorem fixedOf_setRx (x : RxState) : fixedOf (setRx x s) = fixedOf s := rfl
@[simp] theorem fixedOf_updReel (f : ReelRecord → ReelRecord) : fixedOf (updReel r f s) = fixedOf s := rfl
@[simp] theorem fixedOf_updSlot (f : Slot → Slot) : fixedOf (updSlot k f s) = fixedOf s := rfl
@[simp] theorem fixedOf_settleLinks (v : Slot → SuccLink) : fixedOf (settleLinks v s) = fixedOf s := rfl
@[simp] theorem fixedOf_movePending (v : SuccLink) : fixedOf (movePending k v s) = fixedOf s := rfl
@[simp] theorem fixedOf_raiseCause (c : Cause) : fixedOf (raiseCause c s) = fixedOf s := rfl
@[simp] theorem fixedOf_discardFrame : fixedOf (discardFrame k s) = fixedOf s := rfl

@[simp] theorem raiseCause_channel (c : Cause) : (raiseCause c s).svc.pair = s.svc.pair ∧
    (raiseCause c s).svc.copies = s.svc.copies ∧ (raiseCause c s).svc.faultKind = s.svc.faultKind ∧
    (raiseCause c s).svc.leftover = s.svc.leftover ∧ (raiseCause c s).svc.summary = s.svc.summary := ⟨rfl, rfl, rfl, rfl, rfl⟩

@[simp] theorem fixedOf_creditTo (tag : Option (Fin 2)) (f : Counters → Counters) : fixedOf (creditTo tag f s) = fixedOf s := by
  simp [fixedOf]

@[simp] theorem fixedOf_writeTo (f : ReelRecord → ReelRecord) : fixedOf (writeTo r f s) = fixedOf s := by simp [fixedOf]

@[simp] theorem fixedOf_settle (before : State) : fixedOf (settle before s) = fixedOf s := by simp [fixedOf]

/-- An emission start keeps the grading tables and the fade state (R46, R155). -/
@[simp] theorem checkHead_grade : (checkHead s).grade.prog = s.grade.prog ∧ (checkHead s).grade.progCheck = s.grade.progCheck ∧
    (checkHead s).grade.sel = s.grade.sel ∧ (checkHead s).grade.fade = s.grade.fade := by
  obtain e | ⟨i, _, -, -, -, -, e⟩ := checkHead_cases s <;> rw [e]
  · exact ⟨rfl, rfl, rfl, rfl⟩
  · exact startEmission_grade i s

@[simp] theorem fixedOf_checkHead : fixedOf (checkHead s) = fixedOf s := by simp [fixedOf]

@[simp] theorem fixedOf_takeNotice : fixedOf (takeNotice s) = fixedOf s := by
  unfold takeNotice
  (repeat' split) <;> simp [fixedOf]

@[simp] theorem fixedOf_disposeReel : fixedOf (disposeReel r s) = fixedOf s := by
  rw [disposeReel_eq, fixedOf_takeNotice]
  simp [fixedOf, enterWaiting_xport]

@[simp] theorem fixedOf_judgeStore : fixedOf (judgeStore r s) = fixedOf s := by
  obtain ⟨-, -, e⟩ | ⟨-, e⟩ := judgeStore_cases r s <;> rw [e]
  exact fixedOf_disposeReel s r

@[simp] theorem fixedOf_linkFaultDiscard : fixedOf (linkFaultDiscard k r s) = fixedOf s := by
  have hreg : ∀ t : State, fixedOf (regDiscard r t) = fixedOf t := fun t => by simp [fixedOf]
  simp [linkFaultDiscard, hreg]

@[simp] theorem fixedOf_cutShort : fixedOf (cutShort s) = fixedOf s := by
  unfold cutShort
  (repeat' split) <;> simp

@[simp] theorem fixedOf_appendControl (e : Entry) : fixedOf (appendControl e s) = fixedOf s := by
  unfold appendControl
  split
  · rfl
  · simp

@[simp] theorem fixedOf_clearTracks (tag : Option (Fin 2)) : fixedOf (clearTracks tag s) = fixedOf s :=
  fixedOf_creditTo _ _ _

@[simp] theorem clearTracks_defect (tag : Option (Fin 2)) : (clearTracks tag s).defect = { s.defect with tracks := [] } :=
  (creditTo_frame tag _ _).2.2.2.2.2.2.1

@[simp] theorem fixedOf_closeTest : fixedOf (closeTest r s) = fixedOf s := by
  unfold closeTest
  (repeat' split) <;> simp

@[simp] theorem fixedOf_closeReel (implicit : Bool) : fixedOf (closeReel r implicit s) = fixedOf s := by
  unfold closeReel
  rw [fixedOf_judgeStore, fixedOf_updReel]
  exact (fixedOf_clearTracks (closeTest r s) (some r)).trans (fixedOf_closeTest s r)

@[simp] theorem fixedOf_openReel (h : ReelHeader) (b : Bool) : fixedOf (openReel r h b s) = fixedOf s := rfl

@[simp] theorem fixedOf_openOrRefuse (h : ReelHeader) (a b : Bool) : fixedOf (openOrRefuse h a b s) = fixedOf s := by
  obtain ⟨q, -, e⟩ | ⟨-, e⟩ := openOrRefuse_cases h a b s <;> rw [e]
  · rfl
  · cases a <;> rfl

@[simp] theorem fixedOf_takeReelOpen (h : ReelHeader) : fixedOf (takeReelOpen h s) = fixedOf s := by
  unfold takeReelOpen
  split <;> simp

@[simp] theorem fixedOf_takeReelClose : fixedOf (takeReelClose s) = fixedOf s := by
  unfold takeReelClose
  split
  · next q _ => exact fixedOf_closeReel s q false
  · rfl

@[simp] theorem fixedOf_takeSplice : fixedOf (takeSplice s) = fixedOf s := by
  unfold takeSplice
  split <;> simp [fixedOf]

theorem fixedOf_controlCell (e : Entry) {work : State → State} (h : ∀ t, fixedOf (work t) = fixedOf t) :
    fixedOf (controlCell e work s) = fixedOf s := by
  simp [controlCell, h]

@[simp] theorem fixedOf_takeFrameOpen (n : Word) (step : Nat) (cls : SpeedClass) :
    fixedOf (takeFrameOpen n step cls s) = fixedOf s := by
  unfold takeFrameOpen
  dsimp only
  split <;> simp [fixedOf]

@[simp] theorem fixedOf_takeLine (px : List Pixel) : fixedOf (takeLine px s) = fixedOf s := by
  have htreated : ∀ k r, fixedOf (takeTreatedLine k r px s) = fixedOf s := fun _ _ => rfl
  unfold takeLine
  split
  · rfl
  · rfl
  · (repeat' split) <;> simp [htreated]

@[simp] theorem fixedOf_acqTimeoutStep : fixedOf (acqTimeoutStep k r s) = fixedOf s := by
  unfold acqTimeoutStep
  dsimp only
  (repeat' split) <;> simp

@[simp] theorem fixedOf_regClose : fixedOf (regClose k r s) = fixedOf s := by
  have hacq : ∀ sample t, fixedOf (acqClose k r sample t) = fixedOf t := fun sample t =>
    (fixedOf_acqTimeoutStep _ k r).trans (by simp [fixedOf])
  refine (fixedOf_creditTo _ _ _).trans ((fixedOf_updSlot _ k _).trans ((fixedOf_updReel _ r _).trans ?_))
  rw [hacq]
  rfl

@[simp] theorem fixedOf_judgeTear (n : Word) (torn : Bool) : fixedOf (judgeTear r n torn s) = fixedOf s := by
  unfold judgeTear
  dsimp only
  split <;> simp [fixedOf]

@[simp] theorem fixedOf_defectClose : fixedOf (defectClose k r s) = fixedOf s := by
  have hretire : ∀ t, fixedOf (retireTracks k r t) = fixedOf t := fun t => fixedOf_creditTo _ _ _
  unfold defectClose
  dsimp only
  rw [fixedOf_creditTo, fixedOf_updSlot, fixedOf_judgeTear, hretire]
  rfl

@[simp] theorem fixedOf_gradeClose : fixedOf (gradeClose k r s) = fixedOf s := by
  unfold gradeClose
  dsimp only
  rw [fixedOf_writeTo, fixedOf_updSlot]
  rfl

@[simp] theorem fixedOf_closeTreated : fixedOf (closeTreated k r s) = fixedOf s := by
  have htransport : ∀ t, fixedOf (transportClose k r t) = fixedOf t := fun t => by
    simp [fixedOf, transportClose, adoptionStep, adoptStep_frame, exposureClose_frame, speedClose_table]
  simp [closeTreated, htransport]

@[simp] theorem fixedOf_takeFrameClose : fixedOf (takeFrameClose s) = fixedOf s := by
  unfold takeFrameClose
  (repeat' split) <;> simp

end

end Sys2Proof.Machine
end

section
/-! PROOFS. The ingest port, incoming: words, framing and the timeout (R16, R181 to R185), and the link error counter (R3). -/
namespace Sys2Proof.Machine

-- One thread a theorem is too many for the joined text under its memory limit.
set_option Elab.async false

/-! ## A service slot, case by case -/

section
variable {s : State} {w f : Word} {b : List Word} {d n : Nat}

theorem takeSlot_first (h : s.svc.pair = .expectFirst) : takeSlot (some w) s = countCell (setPair (.haveFirst w) s) := by
  unfold takeSlot; rw [h]

theorem takeSlot_idle (h : s.svc.pair = .expectFirst) : takeSlot none s = countCell s := by
  unfold takeSlot; rw [h]

theorem takeSlot_second (h : s.svc.pair = .haveFirst w) : takeSlot (some w) s = acceptWord w (setPair .expectFirst s) := by
  unfold takeSlot; rw [h]; exact if_pos rfl

theorem takeSlot_mismatch (h : s.svc.pair = .haveFirst f) (hw : w ≠ f) : takeSlot (some w) s = s.faulted .mismatch := by
  unfold takeSlot; rw [h]; exact if_neg hw

theorem takeSlot_orphan (h : s.svc.pair = .haveFirst f) : takeSlot none s = s.faulted .orphan := by
  unfold takeSlot; rw [h]; rfl

theorem countCell_waiting (h : s.svc.framing = .waiting) : countCell s = s := by
  unfold countCell; rw [h]

/-- A counted cell is one more in the timeout count; the 4096th discards the message (R183). -/
theorem countCell_collecting (h : s.svc.framing = .collecting b d n) : countCell s =
    if 4096 ≤ n + 1 then s.faulted .timeout else setFraming (.collecting b d (n + 1)) s := by
  unfold countCell; rw [h]; rfl

theorem acceptWord_start (h : s.svc.framing = .waiting) (hw : isStart w = true) (hb : 0 < bitsOf w 15 8) :
    acceptWord w s = setFraming (.collecting [w] (bitsOf w 15 8) 0) s := by
  unfold acceptWord; rw [h]; dsimp only
  rw [if_pos hw, if_neg (by omega)]

theorem acceptWord_whole (h : s.svc.framing = .waiting) (hw : isStart w = true) (hb : bitsOf w 15 8 = 0) :
    acceptWord w s = runMessage w [] s := by
  unfold acceptWord; rw [h]; dsimp only
  rw [if_pos hw, if_pos hb]

theorem acceptWord_stray (h : s.svc.framing = .waiting) (hw : isStart w = false) :
    acceptWord w s = { s with svc := { s.svc with stray := satAdd 65535 s.svc.stray 1 } } := by
  unfold acceptWord; rw [h]; dsimp only
  rw [if_neg (by simp [hw])]

theorem acceptWord_body (h : s.svc.framing = .collecting b (d + 2) n) :
    acceptWord w s = setFraming (.collecting (b ++ [w]) (d + 1) 0) s := by
  unfold acceptWord; rw [h]
  exact if_neg (by omega)

theorem acceptWord_last {x : Word} (h : s.svc.framing = .collecting (x :: b) 1 n) :
    acceptWord w s = runMessage x (b ++ [w]) s := by
  unfold acceptWord; rw [h]; rfl

end

/-! ## The pause state -/

theorem setPause_same {s : State} {p : Bool} (h : s.loadHoldSettled) (hp : s.link.pause = p) : setPause p s = s := by
  subst hp
  exact settle_self h

theorem exec_serviceCell {s : State} (p valid : Bool) (w : Word) (hn : s.npor = true) :
    exec (.serviceCell p valid w) s = .next (setPause p (takeSlot (if valid then some w else none) s)) :=
  whilePowered_on (f := fun s => setPause p (takeSlot (if valid then some w else none) s)) hn

/-- With the pause state as it stands a SERVICE cell does what its service slot does. -/
theorem serviceCell_samePause {s t : State} {valid : Bool} {w : Word} (hn : s.npor = true) (hs : s.loadHoldSettled)
    (ht : takeSlot (if valid then some w else none) s = t) (hp : t.link.pause = s.link.pause) :
    exec (.serviceCell s.link.pause valid w) s = .next t := by
  rw [exec_serviceCell _ _ _ hn, ht]
  exact congrArg _ <| setPause_same (ht ▸ (takeSlot_loadHoldKept _ s).settled hs) hp

@[simp] theorem setPause_svc (p : Bool) (s : State) : (setPause p s).svc.pair = s.svc.pair ∧
    (setPause p s).svc.framing = s.svc.framing ∧ (setPause p s).svc.queue = s.svc.queue ∧
    (setPause p s).svc.faultCount = s.svc.faultCount ∧ (setPause p s).svc.stray = s.svc.stray ∧
    (setPause p s).svc.mask = s.svc.mask := by simp [setPause]

@[simp] theorem setPause_link (p : Bool) (s : State) : (setPause p s).link = { s.link with pause := p } := by simp [setPause]

/-- An unmasked condition bit that changes over an event raises the summary flag and CONDITION_CHANGE (R192). -/
theorem settle_raises {before after : State} {i : Nat} (hi : i < 11) (hm : after.svc.mask.getLsbD i = true)
    (hb : (conditionBits before).getD i false ≠ (conditionBits (recomputeLoadHold after)).getD i false) :
    (settle before after).svc.summary = true ∧ (settle before after).svc.causes.condChange = true := by
  obtain ⟨h, -⟩ | ⟨-, e⟩ := settle_cases before after
  · have hzero : (conditionWord before ^^^ conditionWord (recomputeLoadHold after)) &&&
        (recomputeLoadHold after).svc.mask = 0 := by
      simpa only [unmaskedChange, ne_eq, decide_not, Bool.not_eq_false', decide_eq_true_eq] using h
    have hbit := congrArg (fun x => x.getLsbD i) hzero
    simp only [BitVec.getLsbD_and, BitVec.getLsbD_xor, conditionWord_getLsbD _ hi, recomputeLoadHold_svc, hm, Bool.and_true] at hbit
    exact absurd (by simpa using hbit) hb
  · rw [e]
    exact ⟨rfl, rfl⟩

/-- Settles O23: what a fault in HAVE_FIRST discards (R182); the slot is judged before its cell is counted (log 26). -/
theorem pairFaultsDiscardTheOpenMessage : Obligations.PairFaultsDiscardTheOpenMessage := by
  unfold Obligations.PairFaultsDiscardTheOpenMessage
  intro s f w hn hs hp
  refine ⟨fun hw => serviceCell_samePause hn hs (takeSlot_mismatch hp hw) rfl,
    serviceCell_samePause hn hs (takeSlot_orphan hp) rfl, (exec_powered rfl hn).trans (congrArg _ ?_), fun hf hw e => ?_⟩
  · exact takeSlot_orphan (s := creditLinkError s) hp
  · subst e
    exact serviceCell_samePause hn hs ((takeSlot_second hp).trans (acceptWord_stray hf hw)) rfl

/-- Settles O24. -/
theorem serviceCellBuildsMessages : Obligations.ServiceCellBuildsMessages := by
  unfold Obligations.ServiceCellBuildsMessages
  intro s pause w hn
  have hcell : ∀ valid, exec (.serviceCell pause valid w) s =
      .next (setPause pause (takeSlot (if valid then some w else none) s)) := fun _ => exec_serviceCell _ _ _ hn
  refine ⟨fun hp hf => ⟨⟨_, hcell true, ?_⟩, _, hcell false, ?_⟩, fun hp hf hw hb => ⟨_, hcell true, ?_⟩,
    fun b d n hf hp => ⟨_, hcell true, ?_⟩, fun b d n hf hp hlt => ⟨_, hcell true, ?_⟩⟩
  · rw [if_pos rfl, takeSlot_first hp, countCell_waiting (s := setPair (.haveFirst w) s) hf]
    simpa [setPair] using hf
  · rw [if_neg (by decide), takeSlot_idle hp, countCell_waiting hf]
    refine ⟨by simpa using hp, by simpa using hf, by simp, by simp, fun hne hm => ?_⟩
    exact settle_raises (i := 7) (by decide) hm (Ne.symm hne)
  · rw [if_pos rfl, takeSlot_second hp, acceptWord_start (s := setPair .expectFirst s) hf hw hb]
    simp [setFraming, setPair]
  · rw [if_pos rfl, takeSlot_second hp, acceptWord_body (s := setPair .expectFirst s) hf]
    simp [setFraming, setPair]
  · rw [if_pos rfl, takeSlot_first hp, countCell_collecting (s := setPair (.haveFirst w) s) hf, if_neg (by omega)]
    simp [setFraming, setPair]

/-- Settles O26. -/
theorem openMessageTimesOut : Obligations.OpenMessageTimesOut := by
  unfold Obligations.OpenMessageTimesOut
  have htimeout : ∀ {s : State}, s.npor = true → exec .timeout s = .next (timeoutStep s) := fun hn => exec_powered rfl hn
  refine ⟨fun s hn => ⟨fun hf => ?_, fun b d c hf hlt => ?_, fun b d c hf hle => ?_⟩,
    fun s w hn hs hp => ⟨fun b d c hf hlt => ⟨?_, ?_, ?_⟩, fun b d c hf he => ⟨?_, ?_, ?_⟩, fun hf => ⟨?_, ?_⟩⟩,
    fun s w hn hs hp => ⟨fun hf hw hb => ?_, fun b d c hf => ?_⟩⟩
  · rw [htimeout hn, timeoutStep, hf]
  · rw [htimeout hn, timeoutStep, hf]
    exact congrArg _ (if_neg (Nat.not_le.mpr hlt))
  · rw [htimeout hn, timeoutStep, hf]
    exact congrArg _ (if_pos hle)
  · exact serviceCell_samePause hn hs
      ((takeSlot_idle hp).trans ((countCell_collecting hf).trans (if_neg (by omega)))) rfl
  · exact serviceCell_samePause hn hs
      ((takeSlot_first hp).trans ((countCell_collecting (s := setPair (.haveFirst w) s) hf).trans (if_neg (by omega)))) rfl
  · refine ⟨_, exec_powered rfl hn, ?_⟩
    dsimp only
    rw [takeSlot_idle (s := creditLinkError s) hp, countCell_collecting (s := creditLinkError s) hf, if_neg (by omega)]
    rfl
  · exact serviceCell_samePause hn hs
      ((takeSlot_idle hp).trans ((countCell_collecting hf).trans (if_pos (by omega)))) rfl
  · exact serviceCell_samePause hn hs
      ((takeSlot_first hp).trans ((countCell_collecting (s := setPair (.haveFirst w) s) hf).trans (if_pos (by omega)))) rfl
  · refine ⟨_, exec_powered rfl hn, ?_⟩
    dsimp only
    rw [takeSlot_idle (s := creditLinkError s) hp, countCell_collecting (s := creditLinkError s) hf, if_pos (by omega)]
    exact ⟨rfl, rfl⟩
  · exact serviceCell_samePause hn hs ((takeSlot_idle hp).trans (countCell_waiting hf)) rfl
  · exact serviceCell_samePause hn hs ((takeSlot_first hp).trans (countCell_waiting (s := setPair (.haveFirst w) s) hf)) rfl
  · exact serviceCell_samePause hn hs ((takeSlot_second hp).trans (acceptWord_start (s := setPair .expectFirst s) hf hw hb)) rfl
  · exact serviceCell_samePause hn hs ((takeSlot_second hp).trans (acceptWord_body (s := setPair .expectFirst s) hf)) rfl

end Sys2Proof.Machine
end

section
/-! PROOFS. Messages: a start word read back, the verb a message runs, what a verb leaves unchanged (R184, R185, R188, R199), and
the link error counter (R3). -/
namespace Sys2Proof.Machine

-- One thread a theorem is too many for the joined text under its memory limit.
set_option Elab.async false

/-! ## Start words -/

section
variable {code n : Nat} (tag : Byte)

theorem startWord_toNat (hc : code < 256) (hn : n < 256) :
    (startWord code n tag.toNat).toNat = Config.marker * 2 ^ 24 + code * 2 ^ 16 + n * 2 ^ 8 + tag.toNat * 2 ^ 0 :=
  (((Packed.top 24 8 (show Config.marker < 2 ^ 8 by decide)).or 16 8 hc).or 8 8 hn).or 0 8 tag.isLt |>.toNat

/-- A start word gives back its fields (R199). -/
theorem startWord_fields (hc : code < 256) (hn : n < 256) : bitsOf (startWord code n tag.toNat) 31 24 = Config.marker ∧
    bitsOf (startWord code n tag.toNat) 23 16 = code ∧ bitsOf (startWord code n tag.toNat) 15 8 = n ∧
    BitVec.ofNat 8 (bitsOf (startWord code n tag.toNat) 7 0) = tag := by
  have ht : tag.toNat < 256 := tag.isLt
  have hm : Config.marker = 0xC6 := rfl
  simp only [bitsOf, startWord_toNat tag hc hn, hm, Nat.shiftRight_eq_div_pow]
  refine ⟨by omega, by omega, by omega, ?_⟩
  have hlow : (0xC6 * 2 ^ 24 + code * 2 ^ 16 + n * 2 ^ 8 + tag.toNat * 2 ^ 0) / 2 ^ 0 % 2 ^ (7 - 0 + 1) = tag.toNat := by omega
  rw [hlow, BitVec.ofNat_toNat, BitVec.setWidth_eq]

theorem isStart_startWord (hc : code < 256) (hn : n ≤ 62) : isStart (startWord code n tag.toNat) = true := by
  obtain ⟨hmark, -, hcount, -⟩ := startWord_fields tag hc (show n < 256 by omega)
  unfold isStart
  rw [hmark, hcount, Bool.and_eq_true]
  exact ⟨rfl, decide_eq_true hn⟩

end

theorem verbCode_lt (v : Verb) : verbCode v < 256 := by cases v <;> decide

theorem verbOf_verbCode (v : Verb) : verbOf (verbCode v) = some v := by cases v <;> rfl

theorem verbOf_unknown {code : Nat} (h : code = 0 ∨ 13 < code) : verbOf code = none := by
  unfold verbOf
  split <;> first | omega | rfl

/-- A message of verb `v` runs `v` (R185, R199). -/
theorem runMessage_verb (v : Verb) {n : Nat} (hn : n ≤ 62) (tag : Byte) (body : List Word) (s : State) :
    runMessage (startWord (verbCode v) n tag.toNat) body s = runVerb v tag body s := by
  obtain ⟨-, hcode, -, htag⟩ := startWord_fields tag (verbCode_lt v) (show n < 256 by omega)
  unfold runMessage
  rw [hcode, htag, verbOf_verbCode]

theorem runMessage_unknown {code : Nat} (h : code = 0 ∨ 13 < code) (hc : code < 256) {n : Nat} (hn : n ≤ 62) (tag : Byte)
    (body : List Word) (s : State) :
    runMessage (startWord code n tag.toNat) body s = runUnknown code tag s := by
  obtain ⟨-, hcode, -, htag⟩ := startWord_fields tag hc (show n < 256 by omega)
  unfold runMessage
  rw [hcode, htag, verbOf_unknown h]

/-! ## What a verb leaves unchanged -/

/-- A verb's action sees the framing of the message that brought it no more. -/
theorem runVerb_setPair (v : Verb) (tag : Byte) (body : List Word) (p : PairState) (s : State) :
    runVerb v tag body (setPair p s) = runVerb v tag body s := rfl

theorem onOneWord_link {act : Word → State → List Word × State} {s : State} (h : ∀ w, (act w s).2.link = s.link)
    (body : List Word) : (onOneWord act body s).2.link = s.link := by
  unfold onOneWord
  split
  · exact h _
  · rfl

/-- No verb but READ_STATUS and RESET moves the link unit (R188). -/
theorem verbAction_link {v : Verb} (h : v ≠ .readStatus) (body : List Word) (s : State) :
    (verbAction v body s).2.link = s.link := by
  cases v with
  | readStatus => exact absurd rfl h
  | identify | checksum | reset => rfl
  | setMask | setCeiling => exact onOneWord_link (fun _ => rfl) body
  | readReel => exact onOneWord_link (fun w => by rw [actReadReel_state]) body
  | selectGrade =>
    refine onOneWord_link (fun w => ?_) body
    unfold actSelectGrade
    split <;> rfl
  | placeConfirm =>
    refine onOneWord_link (fun w => ?_) body
    unfold actPlaceConfirm
    split <;> rfl
  | placeRefuse =>
    refine onOneWord_link (fun w => ?_) body
    unfold actPlaceRefuse
    split
    · rfl
    · dsimp only
      split <;> rfl
  | writeTable =>
    change (onTableWrite body s).2.link = _
    unfold onTableWrite actWriteTable
    (repeat' split) <;> first | rfl | exact (writeTableWords_frame _ _ _ s).2.2.1
  | readTable =>
    change (onTableRead body s).2.link = _
    unfold onTableRead
    split
    · rw [actReadTable_state]
    · rfl
  | trim =>
    change (onTrim body s).2.link = _
    unfold onTrim
    split <;> rfl

/-- The pause state stands and the link error counter stands or is cleared (R3, R20, R191). -/
structure LinkKept (s t : State) : Prop where
  pause : t.link.pause = s.link.pause
  errors : t.link.errors = s.link.errors ∨ t.link.errors = 0

theorem LinkKept.of_eq {s t : State} (h : t.link = s.link) : LinkKept s t := by
  constructor <;> simp [h]

theorem runVerb_link {v : Verb} (h1 : v ≠ .readStatus) (h2 : v ≠ .reset) (tag : Byte) (body : List Word) (s : State) :
    (runVerb v tag body s).link = s.link := by
  obtain ⟨h, -, -⟩ | ⟨-, -, e⟩ | ⟨-, -, -, e⟩ | ⟨-, -, -, e⟩ := runVerb_cases v tag body s
  · exact absurd h h2
  · rw [e]; rfl
  · rw [e, settleVerb, if_neg h1, (settle_frame _ _).2.2.1]
    exact verbAction_link h1 body (endFraming s)
  · rw [e]; rfl

theorem runVerb_linkKept (v : Verb) (tag : Byte) (body : List Word) (s : State) : LinkKept s (runVerb v tag body s) := by
  by_cases h1 : v = .readStatus
  · subst h1
    obtain ⟨h, -, -⟩ | ⟨-, -, e⟩ | ⟨-, -, -, e⟩ | ⟨-, -, -, e⟩ := runVerb_cases .readStatus tag body s
    · exact absurd h (by decide)
    · rw [e]; exact .of_eq rfl
    · rw [e]; exact ⟨rfl, .inr rfl⟩
    · rw [e]; exact .of_eq rfl
  · by_cases h2 : v = .reset
    · subst h2
      obtain ⟨-, -, e⟩ | ⟨-, -, e⟩ | ⟨-, -, -, e⟩ | ⟨-, -, -, e⟩ := runVerb_cases .reset tag body s <;> rw [e]
      · exact ⟨rfl, .inr rfl⟩
      · exact .of_eq rfl
      · exact .of_eq ((settle_frame _ _).2.2.1.trans rfl)
      · exact .of_eq rfl
    · exact .of_eq (runVerb_link h1 h2 tag body s)

theorem acceptWord_linkKept (w : Word) (s : State) : LinkKept s (acceptWord w s) := by
  have hmessage : ∀ start body, LinkKept s (runMessage start body s) := fun start body => by
    unfold runMessage
    split
    · exact runVerb_linkKept _ _ body s
    · unfold runUnknown
      dsimp only
      split <;> exact .of_eq rfl
  unfold acceptWord
  (repeat' split) <;> first | exact hmessage _ _ | exact .of_eq rfl

theorem countCell_link (s : State) : (countCell s).link = s.link := by
  cases h : s.svc.framing with
  | waiting => rw [countCell_waiting h]
  | collecting b d n =>
    rw [countCell_collecting h]
    split <;> rfl

theorem takeSlot_none_link (s : State) : (takeSlot none s).link = s.link := by
  cases h : s.svc.pair with
  | expectFirst => rw [takeSlot_idle h, countCell_link]
  | haveFirst f => rw [takeSlot_orphan h]; rfl

theorem takeSlot_linkKept (slot : Option Word) (s : State) : LinkKept s (takeSlot slot s) := by
  obtain ⟨w, -, -, e⟩ | ⟨-, -, e⟩ | ⟨f, -, -, e⟩ | ⟨f, w, -, -, -, e⟩ | ⟨f, -, -, e⟩ := takeSlot_cases slot s <;> rw [e]
  · exact .of_eq (countCell_link (setPair _ s))
  · exact .of_eq (countCell_link s)
  · obtain ⟨hpause, herrors⟩ := acceptWord_linkKept f (setPair .expectFirst s)
    exact ⟨hpause, herrors⟩
  · exact .of_eq rfl
  · exact .of_eq rfl

/-! ## A complete message -/

/-- Settles O25: the verb command is the message complete (log 10). -/
theorem completedMessageRunsItsVerb : Obligations.CompletedMessageRunsItsVerb := by
  unfold Obligations.CompletedMessageRunsItsVerb
  intro s v tag w hn hs hp
  have hverb : ∀ body, exec (verbCommand v tag body) s = .next (runVerb v tag body s) := fun body =>
    exec_powered (verbCommand_effect v tag body) hn
  refine ⟨fun hf hw => ?_, fun n b c hlen hf => ?_⟩ <;> rw [hverb] <;>
    refine serviceCell_samePause hn hs ((takeSlot_second hp).trans ?_) (runVerb_linkKept v tag _ s).pause
  · rw [acceptWord_whole (s := setPair .expectFirst s) hf (hw ▸ isStart_startWord tag (verbCode_lt v) (by decide))
      (hw ▸ (startWord_fields tag (verbCode_lt v) (by decide)).2.2.1), hw, runMessage_verb v (by decide), runVerb_setPair]
  · rw [acceptWord_last (s := setPair .expectFirst s) hf, runMessage_verb v hlen, runVerb_setPair]

/-- Settles O36: the judgement of a message in the order of R185. -/
theorem messagesAreRefusedWithoutEffect : Obligations.MessagesAreRefusedWithoutEffect := by
  unfold Obligations.MessagesAreRefusedWithoutEffect
  refine ⟨fun s v tag body hn hr => ?_, fun s code tag w hn hs hp hcode hmsg => ?_⟩
  · rw [exec_powered (verbCommand_effect v tag body) hn]
    obtain ⟨h1, h2, -⟩ | ⟨-, hf, e⟩ | ⟨-, hf, hl, -⟩ | ⟨-, hf, hl, e⟩ := runVerb_cases v tag body s
    · exact absurd ⟨h1, h2⟩ hr
    · exact ⟨fun _ => congrArg _ e, fun h => absurd (h.symm.trans hf) (by decide)⟩
    · exact ⟨fun h => absurd (h.symm.trans hf) (by decide), fun _ h => absurd (h.symm.trans hl) (by decide)⟩
    · exact ⟨fun h => absurd (h.symm.trans hf) (by decide), fun _ _ => congrArg _ e⟩
  · have hrun : takeSlot (some w) s = runUnknown code.toNat tag s := by
      rw [takeSlot_second hp]
      obtain ⟨hf, hw⟩ | ⟨n, b, c, hlen, hf⟩ := hmsg
      · rw [acceptWord_whole (s := setPair .expectFirst s) hf (hw ▸ isStart_startWord tag code.isLt (by decide))
          (hw ▸ (startWord_fields tag code.isLt (by decide)).2.2.1), hw, runMessage_unknown hcode code.isLt (by decide)]
        rfl
      · rw [acceptWord_last (s := setPair .expectFirst s) hf, runMessage_unknown hcode code.isLt hlen]
        rfl
    have hunknown : runUnknown code.toNat tag s =
        if !replyFree s then s.faulted .replyFull else s.replied code.toNat tag [1] := rfl
    refine ⟨fun hf => serviceCell_samePause hn hs (hrun.trans ?_) rfl, fun hf => serviceCell_samePause hn hs (hrun.trans ?_) rfl⟩
    · rw [hunknown, if_pos (by rw [hf]; rfl)]
    · rw [hunknown, if_neg (by rw [hf]; decide)]

end Sys2Proof.Machine
end

section
/-! PROOFS. The link error counter (R3): every command's effect on it. -/
namespace Sys2Proof.Machine

-- One thread a theorem is too many for the joined text under its memory limit.
set_option Elab.async false

theorem errors_of_fixedOf {s t : State} (h : fixedOf t = fixedOf s) : t.link.errors = s.link.errors :=
  (fixedOf_eq_iff.mp h).1.2.2.1

theorem completeCell_errors (s : State) : (completeCell s).link.errors = s.link.errors := by
  obtain ⟨-, e⟩ | ⟨f, -, e⟩ := completeCell_cases s <;> rw [e]
  simp only [settle_frame, sentPart_frame]
  split <;> simp

theorem composeCell_errors (s : State) : (composeCell s).link.errors = s.link.errors := by
  obtain ⟨a, cell, f, em, l, c, e, -, -⟩ := composeCell_shape s
  rw [e]

/-- What a command does to the link error counter: nothing but READ_STATUS, RESET, a SERVICE cell and the pin clears it, and
nothing but a dropped cell credits it. -/
structure CountsErrors (f : State → State) (clears : Prop) : Prop where
  kept : ¬clears → ∀ s, (f s).link.errors = s.link.errors
  orZero : ∀ s, (f s).link.errors = s.link.errors ∨ (f s).link.errors = 0

theorem CountsErrors.of_eq {f : State → State} {p : Prop} (h : ∀ s, (f s).link.errors = s.link.errors) : CountsErrors f p :=
  ⟨fun _ => h, fun s => .inl (h s)⟩

theorem CountsErrors.of_fixed {work : State → State} {p : Prop} (h : ∀ s, fixedOf (work s) = fixedOf s) :
    CountsErrors (fun s => settle s (work s)) p :=
  .of_eq fun s => errors_of_fixedOf ((fixedOf_settle _ _).trans (h s))

/-- The commands under power that may clear the link error counter. -/
def MayClearErrors (c : Instr) : Prop :=
  (∃ tag b, c = .readStatus tag b) ∨ (∃ tag b, c = .reset tag b) ∨ ∃ p v w, c = .serviceCell p v w

theorem runVerb_countsErrors {v : Verb} (tag : Byte) (body : List Word) {p : Prop} (h : v = .readStatus ∨ v = .reset → p) :
    CountsErrors (runVerb v tag body) p :=
  ⟨fun hp s => by rw [runVerb_link (fun e => hp (h (.inl e))) (fun e => hp (h (.inr e)))],
   fun s => (runVerb_linkKept v tag body s).errors⟩

/-- Every command under power but a dropped cell leaves the link error counter, or is one that may clear it. -/
theorem exec_countsErrors (c : Instr) (hp : ∀ lane, c ≠ .powerOn lane) (hn : c ≠ .nporFall) (hd : ∀ p, c ≠ .droppedCell p) :
    ∃ f, exec c = whilePowered f ∧ CountsErrors f (MayClearErrors c) := by
  have hverb : ∀ {v : Verb} {tag body}, v ≠ .readStatus → v ≠ .reset → CountsErrors (runVerb v tag body) (MayClearErrors c) :=
    fun h1 h2 => runVerb_countsErrors _ _ fun h => h.elim (absurd · h1) (absurd · h2)
  cases c with
  | powerOn lane => exact absurd rfl (hp lane)
  | nporFall => exact absurd rfl hn
  | droppedCell port => exact absurd rfl (hd port)
  | idleCell => exact ⟨_, rfl, .of_eq fun _ => rfl⟩
  | reelOpen h => exact ⟨_, rfl, .of_fixed fun s => fixedOf_controlCell s _ fun t => fixedOf_takeReelOpen t _⟩
  | frameOpen n step cls => exact ⟨_, rfl, .of_fixed fun s => by simp⟩
  | line px => exact ⟨_, rfl, .of_fixed fun s => by simp⟩
  | frameClose => exact ⟨_, rfl, .of_fixed fun s => by simp⟩
  | splice => exact ⟨_, rfl, .of_fixed fun s => fixedOf_controlCell s _ fixedOf_takeSplice⟩
  | reelClose => exact ⟨_, rfl, .of_fixed fun s => fixedOf_controlCell s _ fixedOf_takeReelClose⟩
  | serviceCell pause valid word =>
    refine ⟨_, rfl, fun h => absurd (.inr (.inr ⟨_, _, _, rfl⟩)) h, fun s => ?_⟩
    simpa using (takeSlot_linkKept _ s).errors
  | directiveCell => exact ⟨_, rfl, .of_eq fun _ => rfl⟩
  | ingestOutgoingCell sending =>
    cases sending
    · exact ⟨_, rfl, .of_eq fun s => (completeCell_errors _).trans ((composeCell_errors _).trans (completeCell_errors s))⟩
    · exact ⟨_, rfl, .of_eq fun s => (composeCell_errors _).trans (completeCell_errors s)⟩
  | timeout =>
    refine ⟨_, rfl, .of_eq fun s => ?_⟩
    unfold timeoutStep
    (repeat' split) <;> rfl
  | readStatus tag body => exact ⟨_, rfl, runVerb_countsErrors tag body fun _ => .inl ⟨_, _, rfl⟩⟩
  | reset tag body => exact ⟨_, rfl, runVerb_countsErrors tag body fun _ => .inr (.inl ⟨_, _, rfl⟩)⟩
  | identify | setMask | writeTable | readTable | selectGrade | trim | setCeiling | readReel | checksum | placeConfirm
  | placeRefuse => exact ⟨_, rfl, hverb (by decide) (by decide)⟩
  | emissionStart => exact ⟨_, rfl, .of_fixed fun s => by simp⟩
  | emissionEnd =>
    refine ⟨_, rfl, .of_eq fun s => ?_⟩
    split
    · exact completeCell_errors s
    · rfl
  | enterDisposing => exact ⟨_, rfl, .of_fixed fun s => by simp⟩
  | dispositionNotice => exact ⟨_, rfl, .of_fixed fun s => by simp⟩
  | acqTimeout =>
    refine ⟨_, rfl, .of_eq fun s => ?_⟩
    split <;> simp
  | exposureAdoption =>
    refine ⟨_, rfl, .of_eq fun s => ?_⟩
    split <;> simp
  | trackRetire =>
    refine ⟨_, rfl, .of_eq fun s => ?_⟩
    split <;> simp

/-- Every command but a dropped cell leaves the link error counter or clears it, and only those named clear it. -/
theorem exec_errors {c : Instr} {s t : State} (hd : ∀ p, c ≠ .droppedCell p) (h : exec c s = .next t) :
    (t.link.errors = s.link.errors ∨ t.link.errors = 0) ∧
    (¬MayClearErrors c → (∀ lane, c ≠ .powerOn lane) → c ≠ .nporFall → t.link.errors = s.link.errors) := by
  by_cases hp : ∃ lane, c = .powerOn lane
  · obtain ⟨lane, rfl⟩ := hp
    obtain rfl := Host.Outcome.next.inj h
    exact ⟨.inr rfl, fun _ h => absurd rfl (h lane)⟩
  · by_cases hn : c = .nporFall
    · subst hn
      obtain rfl := Host.Outcome.next.inj h
      exact ⟨.inr rfl, fun _ _ h => absurd rfl h⟩
    · obtain ⟨f, e, hkept, hzero⟩ := exec_countsErrors c (fun lane h => hp ⟨lane, h⟩) hn hd
      rw [e] at h
      obtain rfl := Host.Outcome.next.inj h
      split
      · exact ⟨hzero s, fun hc _ _ => hkept hc s⟩
      · exact ⟨.inl rfl, fun _ _ _ => rfl⟩

theorem droppedCell_errors {p : Port} {s t : State} (h : exec (.droppedCell p) s = .next t) :
    t.link.errors = s.link.errors ∨ t.link.errors = satAdd 65535 s.link.errors 1 := by
  obtain rfl := Host.Outcome.next.inj h
  split
  · cases p
    · exact .inr rfl
    · exact .inr (congrArg LinkUnit.errors (takeSlot_none_link _))
  · exact .inl rfl

/-! ## Verbs that execute -/

/-- A verb of a right body with a reply position free: its action, and its reply queued (R185 step 4). -/
theorem exec_verb {v : Verb} {body : List Word} {s : State} (tag : Byte) (hn : s.npor = true) (hr : replyFree s = true)
    (hl : lengthOk v body.length = true) (hv : ¬(v = .reset ∧ body = [])) :
    exec (verbCommand v tag body) s = .next (settleVerb v (endFraming s)
      (queueReply (verbCode v) tag (verbAction v body (endFraming s)).1 (verbAction v body (endFraming s)).2)) :=
  (exec_powered (verbCommand_effect v tag body) hn).trans (congrArg _ (runVerb_executes tag hr hl hv))

/-- A verb whose action changes nothing answers alone. -/
theorem exec_answers {v : Verb} {body reply : List Word} {s : State} (tag : Byte) (hn : s.npor = true)
    (hs : s.loadHoldSettled) (hr : replyFree s = true) (hl : lengthOk v body.length = true) (hv : ¬(v = .reset ∧ body = []))
    (ha : verbAction v body (endFraming s) = (reply, endFraming s)) :
    exec (verbCommand v tag body) s = .next (s.answered v tag reply) := by
  rw [exec_verb tag hn hr hl hv, ha]
  refine congrArg _ ?_
  unfold settleVerb
  split
  · rfl
  · exact settle_same (s := endFraming s) hs rfl rfl rfl rfl rfl rfl rfl rfl

theorem statusReply_endFraming (s : State) : statusReply (endFraming s) = statusReply s := rfl

theorem exec_readStatus {s : State} (tag : Byte) (hn : s.npor = true) (hr : replyFree s = true) :
    exec (.readStatus tag []) s =
      .next (queueReply 2 tag (0 :: statusReply s) (clearStatus (endFraming s))) :=
  exec_verb (v := .readStatus) tag hn hr rfl (by simp)

/-- Settles O22. -/
theorem linkErrorCounterCountsDroppedCells : Obligations.LinkErrorCounterCountsDroppedCells := by
  unfold Obligations.LinkErrorCounterCountsDroppedCells
  refine ⟨fun s hn => ⟨_, exec_powered rfl hn, rfl⟩, fun s hn => ⟨_, exec_powered rfl hn, ?_⟩, fun n h => satAdd_eq (by omega),
    by decide, fun c s t hd h => (exec_errors hd h).1, fun s t hle h => ?_, fun c s t hd h1 h2 h3 h4 h5 h => ?_,
    fun s tag hn hr => ⟨_, exec_readStatus tag hn hr, rfl, rfl, _, rfl, rfl⟩, fun s tag hn => ?_, fun s lane => ⟨_, rfl, rfl⟩⟩
  · dsimp only
    rw [takeSlot_none_link]
    exact ⟨rfl, rfl⟩
  · unfold step at h
    split at h
    · obtain rfl := Host.Outcome.next.inj h
      exact hle
    · next c rest _ =>
      by_cases hd : ∃ p, c = .droppedCell p
      · obtain ⟨p, rfl⟩ := hd
        obtain e | e := droppedCell_errors h <;> rw [e]
        · exact hle
        · exact satAdd_le 1 hle
      · obtain e | e := (exec_errors (fun p e => hd ⟨p, e⟩) h).1 <;> rw [e]
        · exact hle
        · exact Nat.zero_le _
  · refine (exec_errors hd h).2 ?_ h4 h5
    rintro (⟨tag, b, e⟩ | ⟨tag, b, e⟩ | ⟨p, v, w, e⟩)
    · exact h1 _ _ e
    · exact h2 _ _ e
    · exact h3 _ _ _ e
  · exact ⟨_, (exec_powered (verbCommand_effect .reset tag []) hn).trans (congrArg _ (runVerb_reset tag s)), rfl⟩

/-! ## READ_STATUS -/

theorem bitsNat_lt (bs : List Bool) : bitsNat bs < 2 ^ bs.length := by
  induction bs with
  | nil => decide
  | cons b bs ih =>
    have hflag := flag_lt b
    simp only [bitsNat, List.length_cons]
    omega

/-- Settles O38. -/
theorem readStatusReturnsAndClears : Obligations.ReadStatusReturnsAndClears := by
  unfold Obligations.ReadStatusReturnsAndClears
  intro s tag hn hr
  refine ⟨_, exec_readStatus tag hn hr, rfl, ⟨_, _, _, _, _, rfl, ?_, fun h => ?_, fun h1 h2 => ?_, fun h => ?_, ?_⟩, rfl, rfl, rfl,
    rfl, rfl, rfl, rfl, rfl, rfl, rfl, rfl, rfl, ?_, rfl, rfl, rfl, rfl, rfl, rfl, rfl⟩
  · have hlt := (conditionWord s).isLt
    exact natWord_toNat (by omega)
  · have hcode : faultCode s.svc.faultKind < 2 ^ 8 := by cases s.svc.faultKind <;> decide
    simpa using ((Packed.top 24 8 hcode).or 0 8 (show s.svc.faultCount < 2 ^ 8 by omega)).toNat
  · exact packed_pair (Nat.lt_succ_of_le h1) (Nat.lt_succ_of_le h2)
  · exact (fld_toNat (w := 16) (by omega) (by decide)).trans (by simp)
  · exact (fld_toNat (w := 7) (bitsNat_lt (causeBits s)) (by decide)).trans (by omega)
  · show attentionCode (clearStatus s) = _
    cases h : s.xport.hyst <;> simp [attentionCode, causeBits, clearStatus, noCauses, h] <;> rfl

end Sys2Proof.Machine
end

section
/-! PROOFS. The reading verbs and the verbs that write a register (R138, R154, R188, R190, R192, R85). -/
namespace Sys2Proof.Machine

-- One thread a theorem is too many for the joined text under its memory limit.
set_option Elab.async false

/-- Settles O37. -/
theorem readingVerbsAnswerAndChangeNothing : Obligations.ReadingVerbsAnswerAndChangeNothing := by
  unfold Obligations.ReadingVerbsAnswerAndChangeNothing
  refine ⟨fun s tag w x y hn hs hr => ?_, fun r h => reelWords_layout h⟩
  have hreel : ∀ w, exec (.readReel tag [w]) s = .next (s.answered .readReel tag (actReadReel w (endFraming s)).1) := fun w =>
    exec_answers (v := .readReel) tag hn hs hr rfl (by simp) (Prod.ext rfl (actReadReel_state w _))
  have htable : exec (.readTable tag [w, x, y]) s =
      .next (s.answered .readTable tag (actReadTable w.toNat x.toNat y.toNat (endFraming s)).1) :=
    exec_answers (v := .readTable) tag hn hs hr rfl (by simp) (Prod.ext rfl (actReadTable_state _ _ _ _))
  refine ⟨exec_answers (v := .identify) tag hn hs hr rfl (by simp) ?_, exec_answers (v := .checksum) tag hn hs hr rfl (by simp) rfl,
    hreel 0, hreel 1, hreel 2, fun hw => ?_, fun h1 h2 h3 h4 h5 => ?_, fun h => ?_⟩
  · simp [verbAction, actIdentify, fld, natWord, endFraming]
    exact ⟨rfl, rfl, rfl⟩
  · rw [hreel, actReadReel]
    split <;> first | omega | rfl
  · rw [htable, actReadTable, if_neg (by omega)]
    rfl
  · rw [htable, actReadTable, if_pos (by omega)]
    rfl

theorem flag_decide (p : Prop) [Decidable p] : flag (decide p) = if p then 1 else 0 := by
  by_cases h : p <;> simp [flag, h]

/-- A trim offset is counted as clamped when it lies outside its range (R154). -/
theorem trimOffset_clamped (w : Word) :
    flag (decide (trimOffset w ≠ w.toInt)) = if w.toInt < -4096 ∨ 4095 < w.toInt then 1 else 0 := by
  rw [flag_decide]
  refine if_congr ?_ rfl rfl
  unfold trimOffset clampInt
  omega

theorem actTrim_reply (g0 g1 g2 o0 o1 o2 : Word) (s : State) : (actTrim g0 g1 g2 o0 o1 o2 s).1 =
    [0, natWord ((if 8191 < g0.toNat then 1 else 0) + (if 8191 < g1.toNat then 1 else 0) +
      (if 8191 < g2.toNat then 1 else 0) + (if o0.toInt < -4096 ∨ 4095 < o0.toInt then 1 else 0) +
      (if o1.toInt < -4096 ∨ 4095 < o1.toInt then 1 else 0) + (if o2.toInt < -4096 ∨ 4095 < o2.toInt then 1 else 0))] := by
  unfold actTrim
  simp only [trimOffset_clamped]
  simp only [flag_decide]
  rfl

/-- Settles O39. -/
theorem setMaskAndTrimWriteTheirRegisters : Obligations.SetMaskAndTrimWriteTheirRegisters := by
  unfold Obligations.SetMaskAndTrimWriteTheirRegisters
  intro s tag w g0 g1 g2 o0 o1 o2 hn hs hr
  refine ⟨?_, ?_⟩
  · refine (exec_verb (v := .setMask) tag hn hr rfl (by simp)).trans (congrArg _ ?_)
    exact settle_same (s := endFraming s) hs rfl rfl rfl rfl rfl rfl rfl rfl
  · refine ⟨_, _, (exec_verb (v := .trim) tag hn hr rfl (by simp)).trans (congrArg _
      (settle_same (s := endFraming s) hs rfl rfl rfl rfl rfl rfl rfl rfl)), rfl, ?_, rfl, rfl, rfl⟩
    change queueReply 7 tag (actTrim g0 g1 g2 o0 o1 o2 (endFraming s)).1 (actTrim g0 g1 g2 o0 o1 o2 (endFraming s)).2 = _
    rw [actTrim_reply]
    rfl

/-! ## SELECT_GRADE and SET_CEILING -/

theorem actSelectGrade_unlocked {s : State} (w : Word) (h : anyOccupied s = false) : actSelectGrade w s =
    ([outcomeWord .ok], { s with grade := { s.grade with sel := if w = 0 then .fixed else .programmed } }) := by
  unfold actSelectGrade
  rw [h]
  exact if_neg (by decide)

theorem rank_classOf (n : Nat) : rank (classOf n) = min 3 n := by
  obtain rfl | rfl | rfl | h : n = 0 ∨ n = 1 ∨ n = 2 ∨ 3 ≤ n := by omega
  · rfl
  · rfl
  · rfl
  · obtain ⟨m, rfl⟩ := Nat.exists_eq_add_of_le' h
    exact (Nat.min_eq_left (Nat.le_add_left 3 m)).symm

section
variable (code : Nat) (tag : Byte) (body : List Word) (s : State)

@[simp] theorem queueReply_frame : (queueReply code tag body s).pending = s.pending ∧
    (queueReply code tag body s).npor = s.npor ∧ (queueReply code tag body s).link = s.link ∧
    (queueReply code tag body s).reels = s.reels ∧ (queueReply code tag body s).store = s.store ∧
    (queueReply code tag body s).reg = s.reg ∧ (queueReply code tag body s).xport = s.xport ∧
    (queueReply code tag body s).defect = s.defect ∧ (queueReply code tag body s).repair = s.repair ∧
    (queueReply code tag body s).grade = s.grade ∧ (queueReply code tag body s).shelf = s.shelf ∧
    (queueReply code tag body s).svc.mask = s.svc.mask ∧
    (queueReply code tag body s).svc.queue = s.svc.queue ++ [⟨false, replyWords code tag body⟩] :=
  ⟨rfl, rfl, rfl, rfl, rfl, rfl, rfl, rfl, rfl, rfl, rfl, rfl, rfl⟩

@[simp] theorem endFraming_frame : (endFraming s).pending = s.pending ∧ (endFraming s).npor = s.npor ∧
    (endFraming s).link = s.link ∧ (endFraming s).reels = s.reels ∧ (endFraming s).store = s.store ∧
    (endFraming s).reg = s.reg ∧ (endFraming s).xport = s.xport ∧ (endFraming s).defect = s.defect ∧
    (endFraming s).repair = s.repair ∧ (endFraming s).grade = s.grade ∧ (endFraming s).shelf = s.shelf ∧
    (endFraming s).svc.mask = s.svc.mask ∧ (endFraming s).svc.queue = s.svc.queue :=
  ⟨rfl, rfl, rfl, rfl, rfl, rfl, rfl, rfl, rfl, rfl, rfl, rfl, rfl⟩

@[simp] theorem answered_queue (v : Verb) : (s.answered v tag body).svc.queue =
    s.svc.queue ++ [⟨false, replyWords (verbCode v) tag body⟩] := rfl

end

/-- Settles O40. -/
theorem selectGradeAndSetCeiling : Obligations.SelectGradeAndSetCeiling := by
  unfold Obligations.SelectGradeAndSetCeiling
  refine ⟨fun s tag w hn hs hr => ⟨fun ho => ?_, fun ho => ?_⟩, fun s tag w hn hs hr => ?_⟩
  · refine exec_answers (v := .selectGrade) tag hn hs hr rfl (by simp) (if_pos ?_)
    exact ho
  · have hrun : exec (.selectGrade tag [w]) s = .next (settle (endFraming s)
        (queueReply 6 tag (actSelectGrade w (endFraming s)).1 (actSelectGrade w (endFraming s)).2)) :=
      exec_verb (v := .selectGrade) (body := [w]) tag hn hr rfl (by simp)
    rw [actSelectGrade_unlocked (s := endFraming s) w ho] at hrun
    refine ⟨_, hrun, by simp; rfl, by simp, ?_, by simp, by simp, by simp, ?_, by simp, by simp, by simp, by simp,
      fun hsel hm => settle_raises (i := 6) (by decide) hm ?_⟩
    · by_cases h : w = 0 <;> simp [h]
    · rw [settle_xport]
      exact congrArg (fun b => { s.xport with loadHold := b }) hs.symm
    · simp only [settle_frame, queueReply_frame] at hsel
      change decide (s.grade.sel = _) ≠ decide ((if w = 0 then GradeSel.fixed else .programmed) = _)
      revert hsel
      cases s.grade.sel <;> split <;> simp
  · have hrun : exec (.setCeiling tag [w]) s = .next (settle (endFraming s)
        (queueReply 8 tag (actSetCeiling w (endFraming s)).1 (actSetCeiling w (endFraming s)).2)) :=
      exec_verb (v := .setCeiling) (body := [w]) tag hn hr rfl (by simp)
    have hactive : activeRec (endFraming s) = activeRec s := rfl
    refine ⟨_, hrun, ?_, ?_, fun ha => ?_, fun r ha => ?_, ?_, by simp [actSetCeiling], by simp [actSetCeiling],
      by simp [actSetCeiling], by simp [actSetCeiling], by simp [actSetCeiling], by simp [actSetCeiling],
      by simp [actSetCeiling], by simp [actSetCeiling]⟩
    · have hreply : (actSetCeiling w (endFraming s)).1 = [0, if w.toNat ≤ 3 then 0 else 1] := by
        by_cases h : w.toNat ≤ 3
        · simp [actSetCeiling, outcomeWord, flag, natWord, h, Nat.not_lt.mpr h]
        · simp [actSetCeiling, outcomeWord, flag, natWord, h, Nat.lt_of_not_le h]
      rw [hreply]
      simp [actSetCeiling, verbCode]
    · simpa [actSetCeiling, transportCeiling] using rank_classOf w.toNat
    · simp [actSetCeiling, transportCeiling, hactive, ha]
    · simp [actSetCeiling, transportCeiling, hactive, ha, rank_slower, rank_classOf]
    · rw [settle_xport]
      exact congrArg (fun b => { transportCeiling (classOf w.toNat) (activeRec s).isSome s.xport with loadHold := b }) hs.symm

end Sys2Proof.Machine
end

section
/-! PROOFS. WRITE_TABLE (R189, R200): a word written is one word of the table as it is read back. -/
namespace Sys2Proof.Machine

-- One thread a theorem is too many for the joined text under its memory limit.
set_option Elab.async false

/-! ## One word -/

/-- A change of one element of a list changes one word of the words it spells two by two. -/
theorem flatMap_set_pair {α : Type} {g : α → List Word} (hg : ∀ a, (g a).length = 2) {l : List α} {q b : Nat} {a a' : α} {x : Word}
    (hq : l[q]? = some a) (hb : b < 2) (ha : g a' = (g a).set b x) :
    (l.set q a').flatMap g = (l.flatMap g).set (2 * q + b) x := by
  induction l generalizing q with
  | nil => simp at hq
  | cons y ys ih =>
    cases q with
    | zero =>
      obtain rfl : y = a := by simpa using hq
      simp only [List.set_cons_zero, List.flatMap_cons, ha]
      rw [List.set_append_left _ _ (by rw [hg]; omega)]
      simp
    | succ q =>
      rw [List.set_cons_succ, List.flatMap_cons, List.flatMap_cons, ih (by simpa using hq),
        List.set_append_right _ _ (by rw [hg]; omega), hg]
      congr 2
      omega

theorem toList_vecModify {α : Type} {n i : Nat} (v : Vector α n) (f : α → α) (h : i < n) :
    (vecModify v i f).toList = v.toList.set i (f v[i]) := by
  unfold vecModify
  rw [dif_pos h, Vector.toList_set]

theorem policyWords_write (i : Nat) (w : Word) (e : PolicyEntry) :
    policyWords (policyWrite i w e) = (policyWords e).set (i % 2) (heldWord 5 i w) := by
  obtain h | h : i % 2 = 0 ∨ i % 2 = 1 := by omega
  all_goals simp [policyWrite, h, heldWord, policyWords, policyRule, policyOperand]

theorem bayWords_write (i : Nat) (w : Word) (b : Bay) :
    bayWords (bayWrite i w b) = (bayWords b).set (i % 2) (heldWord 6 i w) := by
  obtain h | h : i % 2 = 0 ∨ i % 2 = 1 := by omega
  all_goals simp [bayWrite, h, heldWord, bayWords, bayAdmission, bayCounts]

/-- A word written to a writable table is that table's word, clamped, and no other (R189, R200). -/
theorem tableWords_writeWord {id i : Nat} (h1 : 1 ≤ id) (h6 : id ≤ 6) (hi : i < tableLength id) (w : Word) (s : State) :
    tableWords (writeWord id i w s) id = (tableWords s id).set i (heldWord id i w) := by
  obtain rfl | rfl | rfl | rfl | rfl | rfl : id = 1 ∨ id = 2 ∨ id = 3 ∨ id = 4 ∨ id = 5 ∨ id = 6 := by omega
  · exact (congrArg _ (regList_regSet _ _ _)).trans List.map_set
  · exact (congrArg _ (transportList_transportSet _ _ _)).trans List.map_set
  · exact (congrArg _ (defectList_defectSet _ _ _)).trans List.map_set
  · exact (congrArg _ (toList_vecModify _ _ hi)).trans List.map_set
  · have hq : i / 2 < 24 := by simp only [tableLength] at hi; omega
    refine (congrArg (List.flatMap policyWords) (toList_vecModify _ _ hq)).trans ?_
    refine (flatMap_set_pair (b := i % 2) (fun _ => rfl) (by simp [hq]) (by omega) (policyWords_write i w _)).trans ?_
    rw [Nat.div_add_mod]
    rfl
  · have hq : i / 2 < 64 := by simp only [tableLength] at hi; omega
    refine (congrArg (List.flatMap bayWords) (toList_vecModify _ _ hq)).trans ?_
    refine (flatMap_set_pair (b := i % 2) (fun _ => rfl) (by simp [hq]) (by omega) (bayWords_write i w _)).trans ?_
    rw [Nat.div_add_mod]
    rfl

/-- A word written leaves every other table. -/
theorem tableWords_writeWord_of_ne {id j : Nat} (h : j ≠ id) (i : Nat) (w : Word) (s : State) :
    tableWords (writeWord id i w s) j = tableWords s j := by
  unfold writeWord
  split <;> first | rfl | (unfold tableWords; split <;> first | rfl | exact absurd rfl h)

theorem flatMap_pair_length {α : Type} {g : α → List Word} (hg : ∀ a, (g a).length = 2) (l : List α) :
    (l.flatMap g).length = 2 * l.length := by
  induction l with
  | nil => rfl
  | cons y ys ih => rw [List.flatMap_cons, List.length_append, hg, ih, List.length_cons]; omega

theorem tableWords_length {id : Nat} (h1 : 1 ≤ id) (h6 : id ≤ 6) (s : State) : (tableWords s id).length = tableLength id := by
  obtain rfl | rfl | rfl | rfl | rfl | rfl : id = 1 ∨ id = 2 ∨ id = 3 ∨ id = 4 ∨ id = 5 ∨ id = 6 := by omega
  · rfl
  · rfl
  · rfl
  · simp [tableWords, tableLength]
  · exact (flatMap_pair_length (fun _ => rfl) _).trans (by simp [tableLength])
  · exact (flatMap_pair_length (fun _ => rfl) _).trans (by simp [tableLength])

/-! ## Consecutive words -/

section
variable {id : Nat}

theorem tableWords_writeWords_of_ne {j : Nat} (h : j ≠ id) (i : Nat) (ws : List Word) (s : State) :
    tableWords (writeWords id i ws s) j = tableWords s j := by
  induction ws generalizing i s with
  | nil => rfl
  | cons w ws ih => exact (ih (i + 1) _).trans (tableWords_writeWord_of_ne h i w s)

/-- The words outside those named stand (R189). -/
theorem tableWords_writeWords_outside (h1 : 1 ≤ id) (h6 : id ≤ 6) {i : Nat} {ws : List Word} (hlen : i + ws.length ≤ tableLength id)
    (s : State) {j : Nat} (hj : j < i ∨ i + ws.length ≤ j) :
    (tableWords (writeWords id i ws s) id)[j]? = (tableWords s id)[j]? := by
  induction ws generalizing i s with
  | nil => rfl
  | cons w ws ih =>
    rw [List.length_cons] at hlen hj
    refine (ih (by omega) _ (by omega)).trans ?_
    rw [tableWords_writeWord h1 h6 (by omega), List.getElem?_set_ne (by omega)]

/-- The words named read back as written or clamped (R189). -/
theorem tableWords_writeWords_at (h1 : 1 ≤ id) (h6 : id ≤ 6) {i : Nat} {ws : List Word} (hlen : i + ws.length ≤ tableLength id)
    (s : State) {k : Nat} {w : Word} (hk : ws[k]? = some w) :
    (tableWords (writeWords id i ws s) id)[i + k]? = some (heldWord id (i + k) w) := by
  induction ws generalizing i s k with
  | nil => simp at hk
  | cons v ws ih =>
    rw [List.length_cons] at hlen
    cases k with
    | zero =>
      obtain rfl : v = w := by simpa using hk
      have hkept := tableWords_writeWords_outside h1 h6 (i := i + 1) (ws := ws) (by omega) (writeWord id i v s) (j := i)
        (.inl (Nat.lt_succ_self i))
      refine hkept.trans ?_
      rw [Nat.add_zero, tableWords_writeWord h1 h6 (by omega),
        List.getElem?_set_self (by rw [tableWords_length h1 h6]; omega)]
    | succ k =>
      have := ih (i := i + 1) (by omega) (writeWord id i v s) (by simpa using hk)
      rwa [Nat.add_right_comm] at this

end

/-! ## WRITE_TABLE -/

theorem tableWords_congr {s t : State} (hreg : t.reg = s.reg) (hx : t.xport.table = s.xport.table) (hd : t.defect = s.defect)
    (hg : t.grade.prog = s.grade.prog) (hsh : t.shelf = s.shelf) (j : Nat) : tableWords t j = tableWords s j := by
  unfold tableWords
  rw [hreg, hx, hd, hg, hsh]

/-- A table write moves of transport control and grading the table alone. -/
theorem writeWords_rest (id i : Nat) (ws : List Word) (s : State) :
    (writeWords id i ws s).xport.cmdStep = s.xport.cmdStep ∧ (writeWords id i ws s).grade.trim = s.grade.trim := by
  induction ws generalizing i s with
  | nil => exact ⟨rfl, rfl⟩
  | cons w ws ih =>
    have hone : (writeWord id i w s).xport.cmdStep = s.xport.cmdStep ∧ (writeWord id i w s).grade.trim = s.grade.trim := by
      unfold writeWord transportSet
      (repeat' split) <;> exact ⟨rfl, rfl⟩
    obtain ⟨hstep, htrim⟩ := ih (i + 1) (writeWord id i w s)
    exact ⟨hstep.trans hone.1, htrim.trans hone.2⟩

/-- What a table write settles to has the tables it wrote and every other field of `s`. -/
theorem tableWords_settled (before : State) (code : Nat) (tag : Byte) (reply : List Word) (id start : Nat) (ws : List Word)
    (s : State) (j : Nat) :
    tableWords (settle before (queueReply code tag reply (writeTableWords id start ws s))) j =
      tableWords (writeWords id start ws s) j := by
  have hwhole : tableWords (writeTableWords id start ws s) j = tableWords (writeWords id start ws s) j := by
    unfold writeTableWords
    dsimp only
    split
    · exact tableWords_congr (t := refreshChecksum _) rfl rfl rfl rfl rfl j
    · rfl
  rw [← hwhole]
  exact tableWords_congr (by simp) (by simp) (by simp) (by simp) (by simp) j

theorem writeTableWords_rest (id start : Nat) (ws : List Word) (s : State) :
    (writeTableWords id start ws s).xport.cmdStep = s.xport.cmdStep ∧
    (writeTableWords id start ws s).grade.trim = s.grade.trim ∧ (writeTableWords id start ws s).grade.sel = s.grade.sel ∧
    (id = 4 → (writeTableWords id start ws s).grade.progCheck = gradeChecksum (writeTableWords id start ws s).grade.prog.toList) ∧
    (id ≠ 4 → (writeTableWords id start ws s).grade = s.grade) := by
  obtain ⟨hstep, htrim⟩ := writeWords_rest id start ws s
  unfold writeTableWords
  dsimp only
  split
  · next h => exact ⟨hstep, htrim, by simp [refreshChecksum], fun _ => rfl, fun hne => absurd h hne⟩
  · next h => exact ⟨hstep, htrim, by simp, fun e => absurd e h, fun _ => writeWords_grade h start ws s⟩

theorem lengthOk_writeTable {id start : Word} {values : List Word} (h1 : 1 ≤ values.length) (h2 : values.length ≤ 60) :
    lengthOk .writeTable (id :: start :: values).length = true := by
  simp only [lengthOk, List.length_cons, Bool.and_eq_true, decide_eq_true_eq]
  omega

theorem actWriteTable_badIndex {id start : Nat} {ws : List Word} (h : id < 1 ∨ 6 < id ∨ tableLength id < start + ws.length)
    (s : State) : actWriteTable id start ws s = ([3], s) := if_pos h

theorem actWriteTable_locked {id start : Nat} {ws : List Word} (h : ¬(id < 1 ∨ 6 < id ∨ tableLength id < start + ws.length))
    {s : State} (h4 : id = 4) (hl : gradeLocked s = true) : actWriteTable id start ws s = ([4], s) :=
  (if_neg h).trans (if_pos ⟨h4, hl⟩)

theorem actWriteTable_written {id start : Nat} {ws : List Word} (h : ¬(id < 1 ∨ 6 < id ∨ tableLength id < start + ws.length))
    {s : State} (hl : ¬(id = 4 ∧ gradeLocked s = true)) :
    actWriteTable id start ws s = ([0, natWord (clampedCount id start ws)], writeTableWords id start ws s) :=
  (if_neg h).trans (if_neg hl)

/-- Settles O41. -/
theorem writeTableHoldsTheClampedWords : Obligations.WriteTableHoldsTheClampedWords := by
  unfold Obligations.WriteTableHoldsTheClampedWords
  intro s tag id start values hn hs hr h1 h60
  have hlen := lengthOk_writeTable (id := id) (start := start) h1 h60
  have hfour : id = 4 ↔ id.toNat = 4 := (BitVec.toNat_inj (y := 4)).symm
  refine ⟨fun hbad => exec_answers (v := .writeTable) tag hn hs hr hlen (by simp) (actWriteTable_badIndex (by omega) _),
    fun hid hfit hsel hocc => exec_answers (v := .writeTable) tag hn hs hr hlen (by simp)
      (actWriteTable_locked ?_ (hfour.mp hid) ?_), fun hid1 hid6 hfit hopen => ?_⟩
  · subst hid
    change ¬(4 < 1 ∨ 6 < 4 ∨ 223 < start.toNat + values.length)
    omega
  · show (decide (s.grade.sel = .programmed) && anyOccupied s) = true
    rw [hsel, hocc]
    rfl
  · have hrun : exec (.writeTable tag (id :: start :: values)) s = .next (settle (endFraming s) (queueReply 4 tag
        (actWriteTable id.toNat start.toNat values (endFraming s)).1
        (actWriteTable id.toNat start.toNat values (endFraming s)).2)) :=
      exec_verb (v := .writeTable) tag hn hr hlen (by simp)
    have hunlocked : ¬(id.toNat = 4 ∧ gradeLocked (endFraming s) = true) := by
      rintro ⟨hid, hl⟩
      obtain ⟨hsel, hocc⟩ : s.grade.sel = .programmed ∧ anyOccupied s = true := by
        simpa [gradeLocked, show anyOccupied (endFraming s) = anyOccupied s from rfl] using hl
      obtain h | h | h := hopen
      · exact h (hfour.mpr hid)
      · rw [h] at hsel; cases hsel
      · rw [h] at hocc; cases hocc
    rw [actWriteTable_written (by omega) hunlocked] at hrun
    obtain ⟨hstep, htrim, hsel, hcheck, hgrade⟩ := writeTableWords_rest id.toNat start.toNat values (endFraming s)
    have hbefore : ∀ j, tableWords (endFraming s) j = tableWords s j := fun j => tableWords_congr rfl rfl rfl rfl rfl j
    refine ⟨_, hrun, by simp [verbCode], fun i w hw => ?_, fun i hi => ?_, fun j hj => ?_, by simp, by simp, by simp, by simp,
      by simp [hstep], by simp [hsel], by simp [htrim], by simp, by simp, by simp, fun hid => ?_, fun hid => ?_⟩
    · rw [tableWords_settled]
      exact tableWords_writeWords_at hid1 hid6 hfit _ hw
    · rw [tableWords_settled, ← hbefore]
      exact tableWords_writeWords_outside hid1 hid6 hfit _ hi
    · rw [tableWords_settled, ← hbefore]
      exact tableWords_writeWords_of_ne hj _ _ _
    · simpa using hcheck (hfour.mp hid)
    · simpa using hgrade (fun e => hid (hfour.mpr e))

end Sys2Proof.Machine
end

section
/-! PROOFS. PLACE_CONFIRM and PLACE_REFUSE (R174 to R176): the entry that holds an id, its removal and its move. -/
namespace Sys2Proof.Machine

-- One thread a theorem is too many for the joined text under its memory limit.
set_option Elab.async false

/-! ## The entry that holds an id -/

section
variable {s : Shelving} {id : Nat} {a b : List Placement} {p : Placement}

theorem findPlacement_none (h : ∀ q ∈ s.placements, q.id ≠ id) : findPlacement s id = none :=
  List.find?_eq_none.mpr fun q hq => by simp [h q hq]

theorem findPlacement_some (h : s.placements = a ++ p :: b) (ha : ∀ q ∈ a, q.id ≠ id) (hp : p.id = id) :
    findPlacement s id = some p := by
  unfold findPlacement
  rw [h, List.find?_append, List.find?_eq_none.mpr fun q hq => by simp [ha q hq], Option.none_or,
    List.find?_cons_of_pos (by simp [hp])]

theorem removePlacement_placements (h : s.placements = a ++ p :: b) (ha : ∀ q ∈ a, q.id ≠ id) (hp : p.id = id) :
    (removePlacement s id).placements = a ++ b := by
  show s.placements.eraseP _ = _
  rw [h, List.eraseP_append_right _ (fun q hq => by simp [ha q hq]), List.eraseP_cons_of_pos (by simp [hp])]

theorem movePlacement_placements (h : s.placements = a ++ p :: b) (hab : ∀ q ∈ a ++ b, q.id ≠ id) (hp : p.id = id)
    (c : Fin 64) : (movePlacement s id c).placements = a ++ { p with bay := c, attempts := 2 } :: b := by
  have hother : ∀ l : List Placement, (∀ q ∈ l, q.id ≠ id) →
      l.map (fun q => if q.id = id then { q with bay := c, attempts := 2 } else q) = l := fun l hl => by
    refine (List.map_congr_left fun q hq => ?_).trans (List.map_id l)
    exact if_neg (hl q hq)
  show s.placements.map _ = _
  rw [h, List.map_append, List.map_cons, if_pos hp, hother a fun q hq => hab q (List.mem_append_left b hq),
    hother b fun q hq => hab q (List.mem_append_right a hq)]

end

/-! ## PLACE_CONFIRM -/

theorem hystAfter_eq (n : Nat) (f : Bool) : hystAfter n f = if 12 ≤ n then true else if n ≤ 4 then false else f := rfl

/-- Settles O42. -/
theorem placeConfirmShelvesTheReel : Obligations.PlaceConfirmShelvesTheReel := by
  unfold Obligations.PlaceConfirmShelvesTheReel
  intro s tag w hn hs hr
  refine ⟨fun h => exec_answers (v := .placeConfirm) tag hn hs hr rfl (by simp) ?_, fun a p b hl ha hp => ?_⟩
  · show actPlaceConfirm w (endFraming s) = _
    unfold actPlaceConfirm
    rw [findPlacement_none (s := (endFraming s).shelf) h]
    rfl
  · have hrun : exec (.placeConfirm tag [w]) s = .next (settle (endFraming s)
        (queueReply 11 tag (actPlaceConfirm w (endFraming s)).1 (actPlaceConfirm w (endFraming s)).2)) :=
      exec_verb (v := .placeConfirm) (body := [w]) tag hn hr rfl (by simp)
    have hact : actPlaceConfirm w (endFraming s) =
        ([0], handCount { endFraming s with shelf := confirmPlacement s.shelf p }) := by
      unfold actPlaceConfirm
      rw [findPlacement_some (s := (endFraming s).shelf) hl ha hp]
      rfl
    have hplaced : (confirmPlacement s.shelf p).placements = a ++ b :=
      removePlacement_placements hl (fun q hq => hp ▸ ha q hq) rfl
    rw [hact] at hrun
    refine ⟨_, hrun, by simp [verbCode], by simp [hplaced], ?_, fun c hc => ?_, by simp; rfl, by simp, ?_, by simp, by simp,
      by simp, by simp, by simp, by simp, by simp⟩
    · simp [confirmPlacement_bay]
    · simp [confirmPlacement_bay, hc]
    · simp [hplaced, hystAfter_eq]

/-! ## PLACE_REFUSE -/

section
variable (s : Shelving) (p : Placement)

theorem refusePlacement_twice (h : 2 ≤ p.attempts) :
    refusePlacement s p = (removePlacement (holdBay s p.bay) p.id, none, .refusedTwice) := if_pos h

theorem refusePlacement_noBay (h : p.attempts < 2) (hc : chooseBay (holdBay s p.bay) p.base p.cls p.hold = none) :
    refusePlacement s p = (removePlacement (holdBay s p.bay) p.id, none, .noBay) := by
  refine (if_neg (Nat.not_le.mpr h)).trans ?_
  rw [hc]

theorem refusePlacement_moved (h : p.attempts < 2) {c : Fin 64} (hc : chooseBay (holdBay s p.bay) p.base p.cls p.hold = some c) :
    refusePlacement s p = (movePlacement (holdBay s p.bay) p.id c, some c, .none) := by
  refine (if_neg (Nat.not_le.mpr h)).trans ?_
  rw [hc]

/-- A refusal moves of the shelving unit the placement list and the bays' hold alone (R175, R176). -/
theorem refusePlacement_frame : (refusePlacement s p).1.bays = (holdBay s p.bay).bays ∧
    (refusePlacement s p).1.policy = s.policy ∧ (refusePlacement s p).1.nextId = s.nextId := by
  obtain ⟨b, e⟩ | ⟨why, e⟩ := refusePlacement_cases s p <;> rw [e] <;> exact ⟨rfl, rfl, rfl⟩

/-- A bay held is no bay chosen (R167, R175). -/
theorem chooseBay_ne_held {base : BaseType} {cls : CondClass} {hold : Bool} {b c : Fin 64}
    (h : chooseBay (holdBay s b) base cls hold = some c) : c ≠ b := by
  rintro rfl
  obtain ⟨hnone, -⟩ | ⟨d, hd, helig, -⟩ := chooseBay_cases (holdBay s c) base cls hold
  · rw [hnone] at h; cases h
  · obtain rfl : d = c := Option.some.inj (hd.symm.trans h)
    simp [eligible, holdBay_bay] at helig

end

/-- The state a refusal leads to, before the end of its event. -/
def refused (p : Placement) (s : State) : State :=
  let f := refusePlacement s.shelf p
  if f.2.1.isSome then { s with shelf := f.1 } else handCount { s with shelf := f.1 }

theorem refused_frame (p : Placement) (s : State) : (refused p s).shelf = (refusePlacement s.shelf p).1 ∧
    (refused p s).store = s.store ∧ (refused p s).reels = s.reels ∧ (refused p s).reg = s.reg ∧
    (refused p s).defect = s.defect ∧ (refused p s).grade = s.grade ∧ (refused p s).link = s.link ∧
    (refused p s).svc = s.svc := by
  unfold refused
  dsimp only
  split <;> simp

theorem exec_placeRefuse {s : State} {w : Word} {p : Placement} (tag : Byte) (hn : s.npor = true) (hr : replyFree s = true)
    (hf : findPlacement s.shelf w.toNat = some p) :
    exec (.placeRefuse tag [w]) s = .next (settle (endFraming s) (queueReply 12 tag
      (0 :: refusalWords p (refusePlacement s.shelf p).2.1 (refusePlacement s.shelf p).2.2) (refused p (endFraming s)))) := by
  have hact : actPlaceRefuse w (endFraming s) =
      (0 :: refusalWords p (refusePlacement s.shelf p).2.1 (refusePlacement s.shelf p).2.2, refused p (endFraming s)) := by
    unfold actPlaceRefuse
    rw [show findPlacement (endFraming s).shelf w.toNat = some p from hf]
    rfl
  refine (exec_verb (v := .placeRefuse) (body := [w]) tag hn hr rfl (by simp)).trans (congrArg _ ?_)
  change settle (endFraming s) (queueReply 12 tag (actPlaceRefuse w (endFraming s)).1 (actPlaceRefuse w (endFraming s)).2) = _
  rw [hact]

/-- Settles O43. -/
theorem placeRefuseReplansOrRemoves : Obligations.PlaceRefuseReplansOrRemoves := by
  unfold Obligations.PlaceRefuseReplansOrRemoves
  intro s tag w hn hs hr
  refine ⟨fun h => exec_answers (v := .placeRefuse) tag hn hs hr rfl (by simp) ?_, fun a p b held hl hab hp hheld => ?_⟩
  · show actPlaceRefuse w (endFraming s) = _
    unfold actPlaceRefuse
    rw [findPlacement_none (s := (endFraming s).shelf) h]
    rfl
  · subst hheld
    have ha : ∀ q ∈ a, q.id ≠ w.toNat := fun q hq => hab q (List.mem_append_left b hq)
    have hremoved : (removePlacement (holdBay s.shelf p.bay) p.id).placements = a ++ b :=
      removePlacement_placements hl (fun q hq => hp ▸ ha q hq) rfl
    obtain ⟨hbays, hpolicy, hid⟩ := refusePlacement_frame s.shelf p
    obtain ⟨hshelf, hstore, hreels, hreg, hdefect, hgrade, hlink, hsvc⟩ := refused_frame p (endFraming s)
    refine ⟨_, exec_placeRefuse tag hn hr (findPlacement_some hl ha hp), by simp [hshelf, hbays], by simp [holdBay_bay],
      fun c hc => by simp [holdBay_bay, hc], by simp [hshelf, hpolicy], by simp [hshelf, hid], fun h2 => ?_, fun h2 hc => ?_,
      fun c h2 hc => ⟨chooseBay_ne_held s.shelf hc, ?_, ?_, ?_⟩, by simp [hstore], by simp [hreels], by simp [hreg],
      by simp [hdefect], by simp [hgrade], by simp [hlink]⟩
    · have e := refusePlacement_twice s.shelf p h2
      simp [refused, e, hremoved, hystAfter_eq, verbCode]
    · have e := refusePlacement_noBay s.shelf p h2 hc
      simp [refused, e, hremoved, hystAfter_eq, verbCode]
    · have e := refusePlacement_moved s.shelf p h2 hc
      simp [refused, e, movePlacement_placements (s := holdBay s.shelf p.bay) hl (hp ▸ hab) rfl]
    · have e := refusePlacement_moved s.shelf p h2 hc
      rw [settle_xport]
      simp only [queueReply_frame, refused, endFraming_frame, e, Option.isSome_some, if_true]
      exact congrArg (fun b => { s.xport with loadHold := b }) hs.symm
    · have e := refusePlacement_moved s.shelf p h2 hc
      simp [refused, e, verbCode]

end Sys2Proof.Machine
end

section
/-! PROOFS. The emission start (R45, R46, R120, R125, R155), the disposal of a record and its notice (R28 to R30, R169, R173), and
the events of a frame's close (R76, R93, R114). -/
namespace Sys2Proof.Machine

-- One thread a theorem is too many for the joined text under its memory limit.
set_option Elab.async false

/-- A command whose work ends its event. -/
theorem exec_settles {c : Instr} {work : State → State} {s : State} (h : exec c = whilePowered fun s => settle s (work s))
    (hn : s.npor = true) : exec c s = .next (settle s (work s)) := exec_powered h hn

/-! ## Emission start -/

theorem checkHead_starts {s : State} {k : Fin 4} {rest : List Entry} (hl : s.store.list = .frame k :: rest)
    (hn : anyEmitting s = false) (hc : (s.slot k).state = .closed) (hlink : linkSettled (s.slot k).link = true) :
    checkHead s = startEmission k s := by
  unfold checkHead
  rw [hl]
  simp [hn, hc, hlink]

theorem checkHead_of_emitting {s : State} (h : anyEmitting s = true) : checkHead s = s := by
  obtain e | ⟨k, rest, -, hn, -, -, -⟩ := checkHead_cases s
  · exact e
  · exact absurd (hn.symm.trans h) (by decide)

theorem startEmission_treated {s : State} {k : Fin 4} {r : Fin 2} (h : (s.slot k).tag = some r) :
    (startEmission k s).repair = (planFrame k r s).repair ∧ (startEmission k s).grade = (planFrame k r s).grade ∧
    ∀ q, (startEmission k s).reel q = (planFrame k r s).reel q := by
  unfold startEmission
  rw [h]
  exact ⟨rfl, rfl, fun _ => rfl⟩

theorem startEmission_untreated {s : State} {k : Fin 4} (h : (s.slot k).tag = none) :
    (startEmission k s).repair = s.repair ∧ (startEmission k s).grade = s.grade ∧ (startEmission k s).reels = s.reels := by
  unfold startEmission
  rw [h]
  exact ⟨rfl, rfl, rfl⟩

/-- A plan is made, credited, and a written pending trim taken up (R46, R125, R155). -/
theorem planFrame_effects {s : State} {k : Fin 4} {r : Fin 2} (h : (s.reel r).state ≠ .free) :
    (planFrame k r s).repair = some (planFor s k r) ∧
    (planFrame k r s).grade = (if s.grade.written then { s.grade with trim := s.grade.pendingTrim, written := false } else s.grade) ∧
    (planFrame k r s).reel r = { s.reel r with
      counters := if s.grade.written then
        { (creditPlan (planFor s k r) (s.reel r).counters) with trims := credit32 (s.reel r).counters.trims 1 }
      else creditPlan (planFor s k r) (s.reel r).counters } := by
  unfold planFrame takeTrim
  dsimp only
  by_cases hw : s.grade.written = true
  · simp [hw, creditTo_reel, h, creditPlan]
  · simp [hw, creditTo_reel, h]

/-- Settles O31. -/
theorem emissionStartPlansTheFrame : Obligations.EmissionStartPlansTheFrame := by
  unfold Obligations.EmissionStartPlansTheFrame
  intro s hn
  have hexec : exec .emissionStart s = .next (settle s (checkHead s)) := exec_settles rfl hn
  refine ⟨fun k rest hl hne hc hlink => ⟨_, hexec, ?_⟩, fun hs he => ?_⟩
  · have htables : sameTables s (settle s (checkHead s)) :=
      (fixedOf_eq_iff.mp ((fixedOf_settle _ _).trans (fixedOf_checkHead s))).2
    have hstart := checkHead_starts hl hne hc hlink
    refine ⟨by simp [hstart], by simp [hstart], by simp [hstart], fun j hj => by simp [hstart, hj], ?_, fun r ht hr => ?_,
      fun ht => ?_, by simp, by simp, by simp, by simp, htables⟩
    · rw [settle_slot, hstart, startEmission_slot, if_pos rfl]
      exact ⟨rfl, rfl, rfl, rfl, rfl, rfl, rfl, rfl, rfl⟩
    · obtain ⟨hrep, hgrade, hreel⟩ := startEmission_treated ht
      obtain ⟨hrep', hgrade', hreel'⟩ := planFrame_effects (k := k) hr
      rw [(settle_frame _ _).2.2.2.2.2.2.2.1, (settle_frame _ _).2.2.2.2.2.2.2.2.1, settle_reel, hstart, hrep, hgrade, hreel, hrep',
        hgrade', hreel']
      refine ⟨rfl, ?_, ?_, ?_, fun hw => ?_, fun hw => ?_⟩
      · split <;> rfl
      · split <;> rfl
      · split <;> rfl
      · simp [hw]
      · simp [hw, creditPlan]
    · obtain ⟨h1, h2, h3⟩ := startEmission_untreated ht
      simp [hstart, h1, h2, h3]
  · rw [hexec, checkHead_of_emitting he, settle_self hs]

/-! ## Disposal -/

theorem enterWaiting_hyst (r : Fin 2) (s : State) :
    ((dispose s.shelf (s.reel r)).1.outcome = .placed →
      (enterWaiting r s).xport.hyst = hystAfter (dispose s.shelf (s.reel r)).2.placements.length s.xport.hyst) ∧
    ((dispose s.shelf (s.reel r)).1.outcome ≠ .placed → (enterWaiting r s).xport.hyst = s.xport.hyst) := by
  rw [enterWaiting_xport]
  exact ⟨fun h => if_pos h, fun h => if_neg h⟩

/-- With the notice position free and none waiting a record disposed is notified and FREE at once (R30). -/
theorem disposeReel_notified {r : Fin 2} {s : State} {d : ReelRecord}
    (hd : d = { (dispose s.shelf (s.reel r)).1 with state := .disposing }) (hn : noticeFree s = true) (hw : s.reels.waiting = []) :
    (disposeReel r s).reels.last = d ∧ (disposeReel r s).reels.waiting = [] ∧
    (disposeReel r s).reels.refused = s.reels.refused ∧
    (disposeReel r s).svc = { s.svc with queue := s.svc.queue ++ [⟨true, noticeWords s.link.lane d⟩] } ∧
    ∀ q, (disposeReel r s).reel q = if q = r then { d with state := .free } else s.reel q := by
  have hfree : noticeFree (enterWaiting r s) = true := (noticeFree_congr (by simp)).trans hn
  obtain ⟨h1, h2, h3, h4, h5⟩ := takeNotice_served (r := r) (rest := []) (by simp [hw]) hfree
  rw [disposeReel_eq]
  refine ⟨by simp [h2, hd], h1, by simp [h3], by simp [h4, hd], fun q => ?_⟩
  rw [h5]
  split <;> simp_all

/-- With the notice position taken a record disposed waits behind the others (R30). -/
theorem disposeReel_waits {r : Fin 2} {s : State} (hn : noticeFree s = false) : disposeReel r s = enterWaiting r s :=
  (disposeReel_eq r s).trans (takeNotice_idle (.inl ((noticeFree_congr (by simp)).trans hn)))

/-- The other record is disposed by no entry of this one: it stands, or its own wait ends (R30). -/
theorem disposeReel_state_of_ne {q r : Fin 2} (h : q ≠ r) (s : State) :
    ((disposeReel r s).reel q).state = (s.reel q).state ∨ ((disposeReel r s).reel q).state = .free := by
  rw [disposeReel_eq]
  obtain e | ⟨p, rest, -, -, -, -, -, -, hreel⟩ := takeNotice_cases (enterWaiting r s)
  · rw [e]; simp [h]
  · rw [hreel]
    split
    · exact .inr rfl
    · simp [h]

/-- Of two records, one DRAINING with an empty store and the other not DRAINING, the first alone is disposed (R28, R29). -/
theorem judgeBoth_eq {r : Fin 2} {s : State} (hd : (s.reel r).state = .draining) (hz : storeCount s r = 0)
    (ho : ∀ q, q ≠ r → (s.reel q).state ≠ .draining) : judgeStore 1 (judgeStore 0 s) = disposeReel r s := by
  have hidle : ∀ {q : Fin 2} {u : State}, (u.reel q).state ≠ .draining → judgeStore q u = u := fun h =>
    if_neg fun hc => h hc.1
  have hjudged : judgeStore r s = disposeReel r s := if_pos ⟨hd, hz⟩
  obtain rfl | rfl : r = 0 ∨ r = 1 := by omega
  · rw [hjudged]
    refine hidle ?_
    obtain e | e := disposeReel_state_of_ne (show (1 : Fin 2) ≠ 0 by decide) s <;> rw [e]
    · exact ho 1 (by decide)
    · simp
  · rw [hidle (ho 0 (by decide)), hjudged]

/-- Settles O34. -/
theorem disposingRecordIsNotifiedAndFreed : Obligations.DisposingRecordIsNotifiedAndFreed := by
  unfold Obligations.DisposingRecordIsNotifiedAndFreed
  refine ⟨fun s r hn hd hz ho => ?_, fun s hn => ⟨fun r rest hw hf => ?_, fun hs hidle => ?_⟩, fun lane r hp hb =>
    noticeWords_layout hp hb⟩
  · have hexec : exec .enterDisposing s = .next (settle s (disposeReel r s)) :=
      judgeBoth_eq hd hz ho ▸ exec_settles (work := fun s => judgeStore 1 (judgeStore 0 s)) rfl hn
    have hhyst : (disposeReel r s).xport.hyst = (enterWaiting r s).xport.hyst := by rw [disposeReel_eq]; simp
    have hrefused : (disposeReel r s).reels.refused = s.reels.refused := by
      obtain e | ⟨p, rest, -, -, -, -, href, -⟩ := takeNotice_cases (enterWaiting r s) <;> rw [disposeReel_eq]
      · rw [e]; simp
      · rw [href]; simp
    obtain ⟨hplaced, hunplaced⟩ := enterWaiting_hyst r s
    refine ⟨_, _, hexec, rfl, by simp, fun hf hw => ?_, fun hf => ?_, fun h => ?_, fun h => ?_, by simp, by simp, by simp,
      by simp, by simp, by simp [hrefused]⟩
    · obtain ⟨h1, h2, -, h4, h5⟩ := disposeReel_notified (r := r) rfl hf hw
      simp [h1, h2, h4, h5]
    · simp [disposeReel_waits hf]
    · simp [hhyst, hplaced h]
    · simp [hhyst, hunplaced h]
  · have hexec : exec .dispositionNotice s = .next (settle s (takeNotice s)) := exec_settles rfl hn
    obtain ⟨h1, h2, -, h4, h5⟩ := takeNotice_served hw hf
    exact ⟨_, hexec, by simp [h5], by simp [h2], by simp [h1], fun q hq => by simp [h5, hq], by simp [h4], by simp, by simp,
      by simp, by simp, by simp, by simp⟩
  · have hexec : exec .dispositionNotice s = .next (settle s (takeNotice s)) := exec_settles rfl hn
    rw [hexec, takeNotice_idle hidle, settle_self hs]

end Sys2Proof.Machine
end

section
/-! PROOFS. The events of a frame's close as commands of their own (R76, R93, R114; log 12). -/
namespace Sys2Proof.Machine

-- One thread a theorem is too many for the joined text under its memory limit.
set_option Elab.async false

/-! ## The end of an event that moves nothing, or one bit -/

theorem recomputeLoadHold_settled {t : State} (h : t.loadHoldSettled) : recomputeLoadHold t = t := by
  unfold recomputeLoadHold
  rw [← h]

/-- An event after which every condition bit stands ends as it stands (R192). -/
theorem settle_quiet {s t : State} (h : t.loadHoldSettled) (hc : conditionBits t = conditionBits s) : settle s t = t := by
  obtain ⟨-, e⟩ | ⟨hu, -⟩ := settle_cases s t
  · rw [e, recomputeLoadHold_settled h]
  · rw [recomputeLoadHold_settled h] at hu
    simp [unmaskedChange, conditionWord, hc] at hu

/-- An event that turns one condition bit on ends with CONDITION_CHANGE exactly where the bit is unmasked (R192). -/
theorem settle_one_bit {s t : State} {i : Nat} (hi : i < 11) (h : t.loadHoldSettled)
    (hc : conditionBits t = (conditionBits s).set i true) (hoff : (conditionBits s).getD i false = false) :
    settle s t = if t.svc.mask.getLsbD i then
      { t with svc := { t.svc with summary := true, causes := { t.svc.causes with condChange := true } } } else t := by
  have hbit : ∀ j, j < 11 → ((conditionWord s ^^^ conditionWord t) &&& t.svc.mask).getLsbD j =
      (decide (j = i) && t.svc.mask.getLsbD j) := fun j hj => by
    rw [BitVec.getLsbD_and, BitVec.getLsbD_xor, conditionWord_getLsbD _ hj, conditionWord_getLsbD _ hj, hc]
    have hlen : (conditionBits s).length = 11 := rfl
    by_cases e : j = i
    · subst e
      rw [hoff]
      simp [List.getD_eq_getElem?_getD, hlen, hj]
    · simp [List.getD_eq_getElem?_getD, List.getElem?_set_ne (Ne.symm e), e]
  have hchange : unmaskedChange s t = t.svc.mask.getLsbD i := by
    unfold unmaskedChange
    cases hm : t.svc.mask.getLsbD i with
    | true =>
      refine decide_eq_true fun hzero => ?_
      have := hbit i hi
      rw [hzero, hm] at this
      simp at this
    | false =>
      refine decide_eq_false (not_not.mpr (BitVec.eq_of_getLsbD_eq fun j hj => ?_))
      rw [hbit j hj]
      by_cases e : j = i
      · subst e; simp [hm]
      · simp [e]
  obtain ⟨hu, e⟩ | ⟨hu, e⟩ := settle_cases s t <;> rw [recomputeLoadHold_settled h, hchange] at hu <;>
    rw [e, recomputeLoadHold_settled h, hu]
  · rfl
  · rfl

/-- Records that keep their states keep the condition bits and the load hold that read them (R34, R96). -/
theorem bothOccupied_congr {s t : State} (h : ∀ q, (t.reel q).state = (s.reel q).state) : bothOccupied t = bothOccupied s := by
  unfold bothOccupied ReelRecord.occupied
  simp only [h]

theorem conditionBits_congr {s t : State} (hr : ∀ q, (t.reel q).state = (s.reel q).state) (hst : t.store = s.store)
    (hreg : t.reg = s.reg) (hx : t.xport = s.xport) (hg : t.grade = s.grade) (hl : t.link = s.link) (hsh : t.shelf = s.shelf)
    (hsvc : t.svc = s.svc) : conditionBits t = conditionBits s := by
  unfold conditionBits activeRec acqLocked windowTainted ReelRecord.isActive State.slot
  simp only [hr, hst, hreg, hx, hg, hl, hsh, hsvc]

/-! ## The closing frame -/

theorem closingFrame_eq {s : State} {k : Fin 4} {r : Fin 2} (hrx : s.link.rx = .filling k) (ht : (s.slot k).tag = some r)
    (hl : (s.slot k).lineCount = (s.reel r).header.lines) : closingFrame s = some (k, r) := by
  unfold closingFrame
  rw [hrx]
  dsimp only
  rw [ht]
  exact if_pos hl

theorem closingFrame_none {s : State} (h : ∀ k r, s.link.rx = .filling k → (s.slot k).tag = some r →
    (s.slot k).lineCount ≠ (s.reel r).header.lines) : closingFrame s = none := by
  unfold closingFrame
  split
  · next k hrx =>
    split
    · next r ht => exact if_neg (h k r hrx ht)
    · rfl
  · rfl

section
variable {s : State} {k : Fin 4} {r : Fin 2}

theorem exec_acqTimeout (hn : s.npor = true) (hc : closingFrame s = some (k, r)) :
    exec .acqTimeout s = .next (settle s (acqTimeoutStep k r s)) := by
  refine (exec_powered rfl hn).trans (congrArg _ ?_)
  rw [hc]

theorem exec_exposureAdoption (hn : s.npor = true) (hc : closingFrame s = some (k, r)) :
    exec .exposureAdoption s = .next (settle s (adoptionStep k s)) := by
  refine (exec_powered rfl hn).trans (congrArg _ ?_)
  rw [hc]

theorem exec_trackRetire (hn : s.npor = true) (hc : closingFrame s = some (k, r)) :
    exec .trackRetire s = .next (settle s (retireTracks k r s)) := by
  refine (exec_powered rfl hn).trans (congrArg _ ?_)
  rw [hc]

/-- With no frame closing the three commands change nothing (log 12). -/
theorem closeEvents_idle (h : closingFrame s = none) :
    exec .acqTimeout s = .next s ∧ exec .exposureAdoption s = .next s ∧ exec .trackRetire s = .next s := by
  cases hn : s.npor with
  | false => simp [exec, execAcqTimeout, execExposureAdoption, execTrackRetire, whilePowered, hn]
  | true => simp [exec, execAcqTimeout, execExposureAdoption, execTrackRetire, whilePowered, hn, h]

/-! ## ACQ_TIMEOUT -/

/-- The acquisition settled by the closing frame's table (R76). -/
theorem acqTimeoutStep_due (hc : collecting (s.reel r) = true) (hle : (s.slot k).latch.reg.acqTimeout ≤ s.reg.sinceOpen) :
    acqTimeoutStep k r s =
      if (s.slot k).latch.reg.acqMin ≤ s.reg.count then
        updReel r (settleAcq (s.slot k).latch.reg.acqMin (s.slot k).latch.reg.unshrunkPitch s.reg.sum s.reg.count) s
      else raiseCause .acqFailed
        (updReel r (settleAcq (s.slot k).latch.reg.acqMin (s.slot k).latch.reg.unshrunkPitch s.reg.sum s.reg.count) s) :=
  if_pos ⟨hc, hle⟩

theorem acqTimeoutStep_idle (h : s.reg.sinceOpen < (s.slot k).latch.reg.acqTimeout ∨ collecting (s.reel r) = false) :
    acqTimeoutStep k r s = s := by
  refine if_neg ?_
  rintro ⟨hc, hle⟩
  obtain h | h := h
  · omega
  · rw [h] at hc; cases hc

theorem acqTimeoutStep_reel (hc : collecting (s.reel r) = true) (hle : (s.slot k).latch.reg.acqTimeout ≤ s.reg.sinceOpen) :
    (acqTimeoutStep k r s).reel r =
      settleAcq (s.slot k).latch.reg.acqMin (s.slot k).latch.reg.unshrunkPitch s.reg.sum s.reg.count (s.reel r) ∧
    (acqTimeoutStep k r s).svc.causes.acqFailed =
      (s.svc.causes.acqFailed || decide (s.reg.count < (s.slot k).latch.reg.acqMin)) := by
  rw [acqTimeoutStep_due hc hle]
  split
  · next h => simp [Nat.not_lt.mpr h]
  · next h => exact ⟨by simp, by simp [Nat.lt_of_not_le h, raiseCause, latchCause]⟩

end

/-- The tracks that retire are credited to the frame's record (R114). -/
theorem retireTracks_reel (k : Fin 4) (r q : Fin 2) (s : State) : (retireTracks k r s).reel q =
    if some r = some q ∧ (s.reel q).state ≠ .free then
      { s.reel q with
        counters := { (s.reel q).counters with
          scratches := credit32 (s.reel q).counters.scratches (s.defect.tracks.filter (retires (s.slot k).latch.defect)).length } }
    else s.reel q := creditTo_reel _ _ _ q

theorem retireTracks_defect (k : Fin 4) (r : Fin 2) (s : State) : (retireTracks k r s).defect =
    { s.defect with tracks := s.defect.tracks.filter fun t => !retires (s.slot k).latch.defect t } :=
  (creditTo_frame _ _ _).2.2.2.2.2.2.1

/-- Settles O35. -/
theorem closeEventsActOnTheClosingFrame : Obligations.CloseEventsActOnTheClosingFrame := by
  unfold Obligations.CloseEventsActOnTheClosingFrame
  refine ⟨fun s k r hn hs hrx ht hl ha => ?_, fun s h => closeEvents_idle (closingFrame_none h)⟩
  have hclose := closingFrame_eq hrx ht hl
  refine ⟨fun hc hle => ?_, fun hidle => ?_, fun hm => ?_, fun hm => ?_, ?_⟩
  · obtain ⟨hreel, hfail⟩ := acqTimeoutStep_reel (k := k) hc hle
    refine ⟨_, exec_acqTimeout hn hclose, ?_⟩
    simp only [settle_reel, settle_svc_frame, settle_frame, acqTimeoutStep_frame, hreel, hfail, (settleAcq_kind ..).2, and_true]
    refine ⟨fun hmin => ?_, fun hmin => ?_⟩
    · simp [settleAcq, hmin, meanPitch, Nat.not_lt.mpr hmin]
    · simp [settleAcq, Nat.not_le.mpr hmin, hmin]
  · rw [exec_acqTimeout hn hclose, acqTimeoutStep_idle hidle, settle_self hs]
  · refine ⟨_, exec_exposureAdoption hn hclose, ?_⟩
    have hadopt : adoptionStep k s =
        { s with xport := { s.xport with cmdStep := (s.slot k).repStep, stale := true, mismatch := 0 } } := by
      unfold adoptionStep adoptStep
      rw [if_pos (show Config.adoptAfter ≤ s.xport.mismatch from hm)]
    rw [hadopt]
    cases hstale : s.xport.stale with
    | true =>
      rw [settle_quiet (t := { s with xport := { s.xport with cmdStep := _, stale := true, mismatch := 0 } }) hs ?_]
      · simp
      · unfold conditionBits
        rw [hstale]
        rfl
    | false =>
      rw [settle_one_bit (s := s) (i := 9) (t := { s with xport := { s.xport with cmdStep := _, stale := true, mismatch := 0 } })
        (by decide) hs rfl hstale]
      change (if s.svc.mask.getLsbD 9 = true then _ else _) = _
      cases s.svc.mask.getLsbD 9 <;> rfl
  · have hkeep : adoptionStep k s = s := by
      unfold adoptionStep adoptStep
      rw [if_neg (show ¬Config.adoptAfter ≤ s.xport.mismatch from Nat.not_le.mpr hm)]
    rw [exec_exposureAdoption hn hclose, hkeep, settle_self hs]
  · have hne : (s.reel r).state ≠ .free := fun e => by simp [ReelRecord.isActive, e] at ha
    have hstate : ∀ q, ((retireTracks k r s).reel q).state = (s.reel q).state := fun q => by
      rw [retireTracks_reel]
      split <;> rfl
    have hquiet : settle s (retireTracks k r s) = retireTracks k r s :=
      settle_quiet (by
        show (retireTracks k r s).xport.loadHold = _
        rw [bothOccupied_congr hstate, (retireTracks_frame k r s).2.2.2.2.2.1]
        exact hs) (conditionBits_congr hstate (by simp) (by simp) (by simp) (by simp) (by simp) (by simp) (by simp))
    refine ⟨_, exec_trackRetire hn hclose, ?_⟩
    rw [hquiet, retireTracks_reel, if_pos ⟨rfl, hne⟩]
    exact ⟨retireTracks_defect k r s, rfl, rfl, rfl, by simp, by simp, by simp, by simp, by simp, by simp, by simp⟩

end Sys2Proof.Machine
end

section
/-! PROOFS. The emission end (R47, R119) and the disposal it may bring about (R28). -/
namespace Sys2Proof.Machine

-- One thread a theorem is too many for the joined text under its memory limit.
set_option Elab.async false

/-! ## The head of the list checked -/

/-- An emission start credits its record for the plan and the trim alone (R125, R155). -/
theorem checkHead_counts (s : State) (q : Fin 2) : ∃ a b c d, (checkHead s).reel q =
    { s.reel q with
      counters := { (s.reel q).counters with repaired := a, unrepaired := b, partials := c, trims := d } } := by
  have hcredit : ∀ (tag : Option (Fin 2)) (f : Counters → Counters) (u : State),
      (∀ c : Counters, ∃ a b p d, f c = { c with repaired := a, unrepaired := b, partials := p, trims := d }) →
      (∃ a b c d, u.reel q =
        { s.reel q with
          counters := { (s.reel q).counters with repaired := a, unrepaired := b, partials := c, trims := d } }) →
      ∃ a b c d, (creditTo tag f u).reel q =
        { s.reel q with
          counters := { (s.reel q).counters with repaired := a, unrepaired := b, partials := c, trims := d } } := by
    rintro tag f u hf ⟨a, b, c, d, hu⟩
    rw [creditTo_reel]
    split
    · obtain ⟨a', b', c', d', e⟩ := hf (u.reel q).counters
      exact ⟨a', b', c', d', by rw [e, hu]⟩
    · exact ⟨a, b, c, d, hu⟩
  obtain e | ⟨k, rest, -, -, -, -, e⟩ := checkHead_cases s <;> rw [e]
  · exact ⟨_, _, _, _, rfl⟩
  · cases ht : (s.slot k).tag with
    | none => exact ⟨_, _, _, _, reel_of_recs (congrArg (·.recs) (startEmission_untreated ht).2.2) q⟩
    | some r =>
      rw [(startEmission_treated ht).2.2 q]
      have hplan := hcredit (some r) (creditPlan (planFor s k r)) { s with repair := some (planFor s k r) }
        (fun c => ⟨_, _, _, _, rfl⟩) ⟨_, _, _, _, rfl⟩
      unfold planFrame takeTrim
      dsimp only
      split
      · exact hcredit _ _ _ (fun c => ⟨_, _, _, _, rfl⟩) hplan
      · exact hplan

/-- The check of the head moves no slot but a CLOSED one (R45). -/
theorem checkHead_slot_of_not_closed {s : State} {j : Fin 4} (h : (s.slot j).state ≠ .closed) :
    (checkHead s).slot j = s.slot j := by
  obtain e | ⟨k, rest, -, -, hc, -, e⟩ := checkHead_cases s <;> rw [e]
  rw [startEmission_slot, if_neg]
  rintro rfl
  exact h hc

theorem checkHead_of_nil {s : State} (h : s.store.list = []) : checkHead s = s := by
  unfold checkHead
  rw [h]

theorem sameFrame_state (x : Slot) (y : SlotState) : sameFrame x { x with state := y } :=
  ⟨rfl, rfl, rfl, rfl, rfl, rfl, rfl, rfl, rfl⟩

theorem checkHead_sameFrame (s : State) (j : Fin 4) : sameFrame (s.slot j) ((checkHead s).slot j) := by
  rw [checkHead_slot]
  exact sameFrame_state _ _

/-! ## The sending over -/

/-- The state when the sending of the cell under way is over, before its part acts: the position of a message whose last copy
it carried is freed (R186, log 27). -/
def cellEnded (lastCopy : Bool) (s : State) : State := if lastCopy then freePosition (flightEnded s) else flightEnded s

section
variable (b : Bool) (s : State)

@[simp] theorem cellEnded_frame : (cellEnded b s).pending = s.pending ∧ (cellEnded b s).npor = s.npor ∧
    (cellEnded b s).link = { s.link with inFlight := none } ∧ (cellEnded b s).store = s.store ∧
    (cellEnded b s).reg = s.reg ∧ (cellEnded b s).xport = s.xport ∧ (cellEnded b s).defect = s.defect ∧
    (cellEnded b s).repair = s.repair ∧ (cellEnded b s).grade = s.grade ∧ (cellEnded b s).shelf = s.shelf := by
  unfold cellEnded
  split <;> simp

@[simp] theorem cellEnded_slot (k : Fin 4) : (cellEnded b s).slot k = s.slot k := slot_of_store (by simp) k

/-- With no record waiting the sending's end moves no record and frees the position (R186). -/
theorem cellEnded_unwaited {s : State} {b : Bool} (h : b = true → s.reels.waiting = []) : (cellEnded b s).reels = s.reels ∧
    (cellEnded b s).svc = if b then { s.svc with queue := s.svc.queue.tail, copies := 0 } else s.svc := by
  unfold cellEnded
  cases b with
  | false => exact ⟨rfl, rfl⟩
  | true =>
    obtain ⟨-, e⟩ | ⟨r, rest, hw, -⟩ := freePosition_cases (flightEnded s)
    · rw [if_pos rfl, e]
      exact ⟨rfl, rfl⟩
    · rw [show (flightEnded s).reels.waiting = [] from h rfl] at hw
      cases hw

/-- A record that does not wait stands through the sending's end (R30). -/
theorem cellEnded_reel {s : State} {b : Bool} {r : Fin 2} (h : b = true → r ∉ s.reels.waiting) :
    (cellEnded b s).reel r = s.reel r := by
  unfold cellEnded
  cases b with
  | false => rfl
  | true =>
    rw [if_pos rfl]
    obtain ⟨-, e⟩ | ⟨q, rest, hw, -, -, -, -, -, hreel⟩ := freePosition_cases (flightEnded s)
    · rw [e]; rfl
    · rw [hreel, if_neg]
      · rfl
      · rintro rfl
        exact h rfl (by rw [show s.reels.waiting = _ from hw]; exact List.mem_cons_self)

theorem cellEnded_copies : (cellEnded true s).svc.copies = 0 := by
  obtain ⟨-, e⟩ | ⟨r, rest, -, -, -, -, -, e, -⟩ := freePosition_cases (flightEnded s)
  · exact congrArg (·.svc.copies) e
  · exact congrArg Service.copies e

/-- The position freed is taken by the one record that waits (R30, R186). -/
theorem cellEnded_notifies {s : State} {q : Fin 2} (hw : s.reels.waiting = [q]) (hn : ∀ x ∈ s.svc.queue.tail, x.notice = false) :
    (cellEnded true s).reels.waiting = [] ∧ ((cellEnded true s).reel q).state = .free ∧
    (cellEnded true s).svc.queue = s.svc.queue.tail ++ [⟨true, noticeWords s.link.lane (s.reel q)⟩] ∧
    (cellEnded true s).svc.copies = 0 := by
  have hfree : noticeFree (positionVacated (flightEnded s)) = true := by
    unfold noticeFree
    simpa using hn
  obtain ⟨h | h, -⟩ | ⟨r, rest, hw', -, hrest, -, -, hsvc, hreel⟩ := freePosition_cases (flightEnded s)
  · exact absurd (h.symm.trans hfree) (by decide)
  · exact absurd (hw.symm.trans h) (by simp)
  · obtain ⟨rfl, rfl⟩ : q = r ∧ [] = rest := List.cons.inj (hw.symm.trans hw')
    refine ⟨hrest, ?_, congrArg Service.queue hsvc, congrArg Service.copies hsvc⟩
    show ((freePosition (flightEnded s)).reel q).state = _
    rw [hreel, if_pos rfl]

end

/-! ## Emission end -/

theorem exec_emissionEnd {s : State} {e : Emission} {b : Bool} (hn : s.npor = true) (he : s.store.emission = some e)
    (hf : s.link.inFlight = some ⟨.frameClose, b⟩) :
    exec .emissionEnd s = .next (settle s (endEmission e.slot (cellEnded b s))) := by
  have hend : completeCell s = settle s (endEmission e.slot (cellEnded b s)) := by
    obtain ⟨hnone, -⟩ | ⟨f, hf', h⟩ := completeCell_cases s
    · rw [hf] at hnone; cases hnone
    · obtain rfl : f = ⟨.frameClose, b⟩ := Option.some.inj (hf'.symm.trans hf)
      rw [h]
      change settle s (match (cellEnded b s).store.emission with
        | some e => endEmission e.slot (cellEnded b s)
        | none => cellEnded b s) = _
      rw [(cellEnded_frame b s).2.2.2.1, he]
  refine (exec_powered rfl hn).trans (congrArg _ ?_)
  rw [hf]
  exact hend

/-- A frame's emission end takes it out of its reel's store count (R28). -/
theorem storeCount_frameEmitted {s : State} {k : Fin 4} {r : Fin 2} (h : (s.slot k).state = .emitting)
    (ht : (s.slot k).tag = some r) : storeCount (frameEmitted k s) r + 1 = storeCount s r := by
  have hcount := storeCount_change (s := s) (t := frameEmitted k s) (k := k) (r := r) fun j hj => by
    unfold holdsFrameOf
    rw [frameEmitted_slot k s h, if_neg hj]
    split
    · next hkept => simp [inStore, hkept.1]
    · rfl
  have hbefore : holdsFrameOf s r k = true := by simp [holdsFrameOf, ht, inStore, h]
  have hafter : holdsFrameOf (frameEmitted k s) r k = false := by
    unfold holdsFrameOf
    rw [frameEmitted_slot k s h, if_pos rfl]
    obtain e | e := stateAfterEmission_cases (s.slot k) <;> simp [inStore, e]
  rw [hbefore, hafter] at hcount
  simpa [flag] using hcount

theorem sameFrame_refl (x : Slot) : sameFrame x x := ⟨rfl, rfl, rfl, rfl, rfl, rfl, rfl, rfl, rfl⟩

theorem sameFrame_trans {x y z : Slot} (h1 : sameFrame x y) (h2 : sameFrame y z) : sameFrame x z := by
  obtain ⟨a1, a2, a3, a4, a5, a6, a7, a8, a9⟩ := h1
  obtain ⟨b1, b2, b3, b4, b5, b6, b7, b8, b9⟩ := h2
  exact ⟨b1.trans a1, b2.trans a2, b3.trans a3, b4.trans a4, b5.trans a5, b6.trans a6, b7.trans a7, b8.trans a8, b9.trans a9⟩

theorem frameEmitted_sameFrame {s : State} {k : Fin 4} (h : (s.slot k).state = .emitting) (j : Fin 4) :
    sameFrame (s.slot j) ((frameEmitted k s).slot j) := by
  rw [frameEmitted_slot k s h]
  split
  · next e => subst e; exact sameFrame_state _ _
  · split
    · exact sameFrame_state _ _
    · exact sameFrame_refl _

theorem frameEmitted_not_closed {s : State} {k : Fin 4} (h : (s.slot k).state = .emitting) :
    ((frameEmitted k s).slot k).state ≠ .closed := by
  rw [frameEmitted_slot k s h, if_pos rfl]
  obtain e | e := stateAfterEmission_cases (s.slot k) <;> simp [e]

/-- The state after an emission end that disposes no reel. -/
def emissionEnded (s : State) (k : Fin 4) (b : Bool) : State := settle s (checkHead (frameEmitted k (cellEnded b s)))

theorem emissionEnded_frame {s : State} {k : Fin 4} (b : Bool) (hk : (s.slot k).state = .emitting) :
    (emissionEnded s k b).link = { s.link with inFlight := none } ∧
    (emissionEnded s k b).store.list = s.store.list.filter (fun x => decide (x ≠ .frame k)) ∧
    (∀ j, sameFrame (s.slot j) ((emissionEnded s k b).slot j)) ∧
    ((emissionEnded s k b).store.list = [] → (emissionEnded s k b).store.emission = none ∧ (emissionEnded s k b).repair = none) ∧
    (emissionEnded s k b).reg = s.reg ∧ (emissionEnded s k b).defect = s.defect ∧ (emissionEnded s k b).shelf = s.shelf ∧
    (emissionEnded s k b).svc.queue = (cellEnded b s).svc.queue ∧ (emissionEnded s k b).svc.copies = (cellEnded b s).svc.copies ∧
    (emissionEnded s k b).reels.last = (cellEnded b s).reels.last ∧
    (emissionEnded s k b).reels.waiting = (cellEnded b s).reels.waiting ∧
    (emissionEnded s k b).reels.refused = (cellEnded b s).reels.refused ∧ sameTables s (emissionEnded s k b) := by
  have hku : ((cellEnded b s).slot k).state = .emitting := by simpa using hk
  refine ⟨by simp [emissionEnded], by simp [emissionEnded], fun j => ?_, fun hnil => ?_, by simp [emissionEnded],
    by simp [emissionEnded], by simp [emissionEnded], by simp [emissionEnded], by simp [emissionEnded], by simp [emissionEnded],
    by simp [emissionEnded], by simp [emissionEnded], by simp [emissionEnded, sameTables]⟩
  · have h1 := frameEmitted_sameFrame hku j
    rw [cellEnded_slot] at h1
    simpa [emissionEnded] using sameFrame_trans h1 (checkHead_sameFrame _ j)
  · have hnil' : (frameEmitted k (cellEnded b s)).store.list = [] := by simpa [emissionEnded] using hnil
    simp [emissionEnded, checkHead_of_nil hnil']

section
variable {s : State} {e : Emission} {b : Bool}

/-- The record of the emitted frame, while it does not wait: one frame more counted as emitted (R47). -/
theorem frameEmitted_cellEnded_reel {k : Fin 4} {r : Fin 2} (ht : (s.slot k).tag = some r) (hne : (s.reel r).state ≠ .free)
    (hwait : b = true → r ∉ s.reels.waiting) : (frameEmitted k (cellEnded b s)).reel r =
      { s.reel r with
        counters := { (s.reel r).counters with emitted := credit32 (s.reel r).counters.emitted 1 } } := by
  rw [frameEmitted_reel, cellEnded_slot, cellEnded_reel hwait, if_pos ⟨ht, hne⟩]

/-- While its reel is ACTIVE, or has more frames in the store, an emission end disposes no reel (R28). -/
theorem emissionEnd_keepsReel {r : Fin 2} (hn : s.npor = true) (he : s.store.emission = some e)
    (hf : s.link.inFlight = some ⟨.frameClose, b⟩) (hk : (s.slot e.slot).state = .emitting) (ht : (s.slot e.slot).tag = some r)
    (hstay : (s.reel r).isActive = true ∨ ((s.reel r).state = .draining ∧ 1 < storeCount s r))
    (hne : (s.reel r).state ≠ .free) (hwait : b = true → r ∉ s.reels.waiting) :
    exec .emissionEnd s = .next (emissionEnded s e.slot b) := by
  have hku : ((cellEnded b s).slot e.slot).state = .emitting := by simpa using hk
  have htu : ((cellEnded b s).slot e.slot).tag = some r := by simpa using ht
  rw [exec_emissionEnd hn he hf, endEmission_eq, htu]
  refine congrArg (fun t => Host.Outcome.next (settle s (checkHead t))) (if_neg ?_)
  rw [frameEmitted_cellEnded_reel ht hne hwait]
  rintro ⟨hd, hz⟩
  have hd : (s.reel r).state = .draining := hd
  obtain h | ⟨-, h⟩ := hstay
  · simp [ReelRecord.isActive, hd] at h
  · have hcount := storeCount_frameEmitted hku htu
    have hsame : storeCount (cellEnded b s) r = storeCount s r :=
      storeCount_congr (fun k => by rw [cellEnded_slot]) (fun k => by rw [cellEnded_slot]) r
    omega

/-- The emission end moves no record's state but those the freed position frees. -/
theorem emissionEnded_kind (k : Fin 4) (q : Fin 2) : ((emissionEnded s k b).reel q).state = ((cellEnded b s).reel q).state := by
  obtain ⟨a1, a2, a3, a4, hcount⟩ := checkHead_counts (frameEmitted k (cellEnded b s)) q
  rw [emissionEnded, settle_reel, hcount, frameEmitted_reel]
  split <;> rfl

/-- A slot that is not CLOSED when the frame has left stands through the check of the new head. -/
theorem emissionEnded_slot {k j : Fin 4} (h : ((frameEmitted k (cellEnded b s)).slot j).state ≠ .closed) :
    (emissionEnded s k b).slot j = (frameEmitted k (cellEnded b s)).slot j := by
  rw [emissionEnded, settle_slot, checkHead_slot_of_not_closed h]

/-- The emitted frame's slot is KEPT for a READY link and FREE otherwise; a KEPT slot that waited for it is FREE (R47). -/
theorem emissionEnded_states {k : Fin 4} (hk : (s.slot k).state = .emitting) :
    ((emissionEnded s k b).slot k).state = stateAfterEmission (s.slot k) ∧
    ∀ j, j ≠ k → (s.slot j).state = .kept → (s.slot j).link = .ready k → ((emissionEnded s k b).slot j).state = .free := by
  have hku : ((cellEnded b s).slot k).state = .emitting := by simpa using hk
  refine ⟨?_, fun j hj hkept hready => ?_⟩
  · rw [emissionEnded_slot (frameEmitted_not_closed hku), frameEmitted_slot _ _ hku, if_pos rfl, cellEnded_slot]
  · have hfree : (frameEmitted k (cellEnded b s)).slot j = { s.slot j with state := .free } := by
      rw [frameEmitted_slot _ _ hku, if_neg hj, cellEnded_slot, if_pos ⟨hkept, hready⟩]
    rw [emissionEnded_slot (by rw [hfree]; simp), hfree]

/-- A CLOSED frame with a settled link that comes to the head starts its emission (R47 step 5). -/
theorem emissionEnded_starts {k j : Fin 4} {rest : List Entry} (hk : (s.slot k).state = .emitting)
    (hl : (emissionEnded s k b).store.list = .frame j :: rest) (hj : j ≠ k) (hc : (s.slot j).state = .closed)
    (hlink : linkSettled (s.slot j).link = true) (hothers : ∀ i, i ≠ k → (s.slot i).state ≠ .emitting) :
    ((emissionEnded s k b).slot j).state = .emitting ∧ emittingSlot (emissionEnded s k b) = some j := by
  have hku : ((cellEnded b s).slot k).state = .emitting := by simpa using hk
  have hslot : ∀ i, i ≠ k → ((frameEmitted k (cellEnded b s)).slot i).state ≠ .emitting := fun i hi => by
    rw [frameEmitted_slot _ _ hku, if_neg hi]
    split
    · simp
    · simpa using hothers i hi
  have hstand : (frameEmitted k (cellEnded b s)).slot j = s.slot j := by
    rw [frameEmitted_slot _ _ hku, if_neg hj, cellEnded_slot, if_neg (by simp [hc])]
  have hnone : anyEmitting (frameEmitted k (cellEnded b s)) = false := by
    unfold anyEmitting
    rw [List.any_eq_false]
    intro i _
    refine fun h => ?_
    by_cases e : i = k
    · subst e
      have := of_decide_eq_true h
      rw [frameEmitted_slot _ _ hku, if_pos rfl] at this
      obtain e | e := stateAfterEmission_cases ((cellEnded b s).slot i) <;> rw [e] at this <;> cases this
    · exact hslot i e (of_decide_eq_true h)
  have hhead : (frameEmitted k (cellEnded b s)).store.list = .frame j :: rest := by simpa [emissionEnded] using hl
  have hstart := checkHead_starts hhead hnone (by rw [hstand]; exact hc) (by rw [hstand]; exact hlink)
  unfold emissionEnded emittingSlot
  rw [settle_slot, (settle_frame _ _).2.2.2.2.1, hstart]
  simp

end

/-- Settles O32. -/
theorem emissionEndFreesTheFrame : Obligations.EmissionEndFreesTheFrame := by
  unfold Obligations.EmissionEndFreesTheFrame
  refine ⟨fun s e r b hn he hf hk ht hstay hwait => ?_, fun s e b hn he hf hk ht hwait => ?_⟩
  · have hne : (s.reel r).state ≠ .free := by
      obtain h | ⟨h, -⟩ := hstay
      · intro e; simp [ReelRecord.isActive, e] at h
      · simp [h]
    obtain ⟨hlink, hlist, hsame, hnil, hreg, hdefect, hshelf, hqueue, hcopies, -, -, -, htables⟩ := emissionEnded_frame b hk
    obtain ⟨hstate, hkept⟩ := emissionEnded_states (b := b) hk
    obtain ⟨a1, a2, a3, a4, hcount⟩ := checkHead_counts (frameEmitted e.slot (cellEnded b s)) r
    rw [frameEmitted_cellEnded_reel ht hne hwait] at hcount
    have hreel : (emissionEnded s e.slot b).reel r = _ := (settle_reel s _ r).trans hcount
    refine ⟨_, emissionEnd_keepsReel hn he hf hk ht hstay hne hwait, by rw [hlink], hlist, ?_, by rw [hreel], by rw [hreel],
      by rw [hreel], hkept, hsame, hnil, fun k rest hl hne hc hlink' hothers => emissionEnded_starts hk hl hne hc hlink' hothers,
      by rw [hlink], by rw [hlink], hreg, hdefect, hshelf, fun hb => ?_, fun hb => ?_, htables⟩
    · rw [hstate]
      unfold stateAfterEmission
      rw [ht]
      cases (s.slot e.slot).link <;> rfl
    · subst hb
      exact ⟨hqueue, hcopies⟩
    · subst hb
      refine ⟨hcopies.trans (cellEnded_copies s), fun hw => ?_, fun q hw hnotice => ?_⟩
      · rw [hqueue, (cellEnded_unwaited fun _ => hw).2]
        rfl
      · obtain ⟨-, hfree, hq, -⟩ := cellEnded_notifies hw hnotice
        refine ⟨?_, hqueue.trans hq⟩
        rw [emissionEnded_kind]
        exact hfree
  · have hku : ((cellEnded b s).slot e.slot).state = .emitting := by simpa using hk
    obtain ⟨hlink, hlist, hsame, hnil, hreg, hdefect, hshelf, hqueue, -, hlast, hwaiting, hrefused, htables⟩ :=
      emissionEnded_frame b hk
    obtain ⟨hstate, -⟩ := emissionEnded_states (b := b) hk
    obtain ⟨hreels, hsvc⟩ := cellEnded_unwaited hwait
    have hexec : exec .emissionEnd s = .next (emissionEnded s e.slot b) := by
      rw [exec_emissionEnd hn he hf, endEmission_eq, cellEnded_slot, ht]
      rfl
    refine ⟨_, hexec, by rw [hlink], ?_, hlist, fun r => ?_, hsame, hnil, hreg, hdefect, hshelf, ?_, by rw [hlast, hreels],
      by rw [hwaiting, hreels], by rw [hrefused, hreels], htables⟩
    · rw [hstate]
      simp [stateAfterEmission, ht]
    · obtain ⟨a1, a2, a3, a4, hcount⟩ := checkHead_counts (frameEmitted e.slot (cellEnded b s)) r
      have hstand : (frameEmitted e.slot (cellEnded b s)).reel r = s.reel r := by
        rw [frameEmitted_reel, cellEnded_slot, ht, if_neg (by simp)]
        exact reel_of_recs (congrArg (·.recs) hreels) r
      rw [hstand] at hcount
      have hreel : (emissionEnded s e.slot b).reel r = _ := (settle_reel s _ r).trans hcount
      rw [hreel]
      exact ⟨rfl, rfl, rfl, rfl, rfl, rfl⟩
    · rw [hqueue, hsvc]
      cases b <;> rfl

/-- Settles O33. -/
theorem lastEmissionDisposesTheReel : Obligations.LastEmissionDisposesTheReel := by
  unfold Obligations.LastEmissionDisposesTheReel
  refine ⟨fun s e r d b m hn he hf hk ht hdrain hone hw hm hnotice hd => ?_, fun s hn h => ?_⟩
  · have hku : ((cellEnded b s).slot e.slot).state = .emitting := by simpa using hk
    have htu : ((cellEnded b s).slot e.slot).tag = some r := by simpa using ht
    have hreel : (frameEmitted e.slot (cellEnded b s)).reel r = d :=
      (frameEmitted_cellEnded_reel ht (by simp [hdrain]) (by simp [hw])).trans hd.symm
    have hzero : storeCount (frameEmitted e.slot (cellEnded b s)) r = 0 := by
      have hcount := storeCount_frameEmitted hku htu
      have hsame : storeCount (cellEnded b s) r = storeCount s r :=
        storeCount_congr (fun k => by rw [cellEnded_slot]) (fun k => by rw [cellEnded_slot]) r
      omega
    have hexec : exec .emissionEnd s =
        .next (settle s (checkHead (disposeReel r (frameEmitted e.slot (cellEnded b s))))) := by
      rw [exec_emissionEnd hn he hf, endEmission_eq, htu]
      refine congrArg (fun t => Host.Outcome.next (settle s (checkHead t))) (if_pos ⟨?_, hzero⟩)
      rw [hreel, hd]
      exact hdrain
    obtain ⟨hreels, hsvc⟩ := cellEnded_unwaited fun _ : b = true => hw
    have hqueue : (frameEmitted e.slot (cellEnded b s)).svc.queue = m := by
      rw [(frameEmitted_frame _ _).2.2.2.2.2.2.2.2.1, hsvc, hm]
      cases b <;> rfl
    have hfree : noticeFree (frameEmitted e.slot (cellEnded b s)) = true := by
      unfold noticeFree
      rw [hqueue]
      simpa using hnotice
    obtain ⟨hlast, hwait, -, hsvc', hrec⟩ := disposeReel_notified (r := r) rfl hfree (by simp [hreels, hw])
    rw [hreel] at hlast hsvc'
    obtain ⟨a1, a2, a3, a4, hcount⟩ := checkHead_counts (disposeReel r (frameEmitted e.slot (cellEnded b s))) r
    refine ⟨_, hexec, ?_, ?_, ?_, ?_, ?_⟩
    · rw [settle_reel, hcount, hrec, if_pos rfl]
    · simpa using hlast
    · simp [hreel]
    · rw [(settle_svc_frame ..).2.2.1, (checkHead_frame _).2.2.2.2.2.2.2, (settle_frame _ _).2.2.2.1, (checkHead_reports _).1, hlast,
        hsvc', hqueue, (frameEmitted_frame _ _).2.2.1, (cellEnded_frame b s).2.2.1]
    · simpa using hwait
  · refine (exec_powered rfl hn).trans (congrArg _ ?_)
    split
    · next b hb => exact absurd hb (h b)
    · rfl

end Sys2Proof.Machine
end

section
/-! PROOFS. The outgoing ingest cell (R17 to R19, R46, R48, R49, R186). -/
namespace Sys2Proof.Machine

-- One thread a theorem is too many for the joined text under its memory limit.
set_option Elab.async false

/-! ## The cell composed -/

theorem composeEmitted_svc (s : State) : (composeEmitted s).2.2.svc = s.svc ∧ (composeEmitted s).2.2.reels = s.reels ∧
    (composeEmitted s).2.2.repair = s.repair ∧ (composeEmitted s).2.2.link.pause = s.link.pause ∧
    (composeEmitted s).2.2.link.lane = s.link.lane := by
  obtain ⟨a, e, -⟩ | ⟨em, p, -, -, e⟩ | ⟨x, rest, -, -, e⟩ := composeEmitted_cases s <;> rw [e] <;>
    exact ⟨rfl, rfl, rfl, rfl, rfl⟩

/-- A composed cell carries a message's last copy (R186). -/
def lastCopyDue (s : State) : Bool := (composeSlot s).2.1

theorem composeSlot_congr {s t : State} (h : t.svc = s.svc) : (composeSlot t).1 = (composeSlot s).1 ∧
    (composeSlot t).2.1 = (composeSlot s).2.1 ∧ (composeSlot t).2.2.svc = (composeSlot s).2.2.svc := by
  unfold composeSlot
  rw [h]
  cases s.svc.leftover with
  | some w => exact ⟨rfl, rfl, rfl⟩
  | none =>
    cases s.svc.queue with
    | nil => exact ⟨rfl, rfl, h⟩
    | cons m rest =>
      dsimp only
      cases m.words[s.svc.copies / 2]? with
      | some w => exact ⟨rfl, rfl, rfl⟩
      | none => exact ⟨rfl, rfl, h⟩

theorem composeSlot_frame (s : State) : (composeSlot s).2.2.store = s.store ∧ (composeSlot s).2.2.link = s.link ∧
    (composeSlot s).2.2.reels = s.reels ∧ (composeSlot s).2.2.repair = s.repair := by
  obtain ⟨l, c, e⟩ := composeSlot_shape s
  rw [e]
  exact ⟨rfl, rfl, rfl, rfl⟩

section
variable (s : State)

/-- What a composed cell sends and what it moves (R17). -/
theorem composeCell_effects :
    (composeCell s).link.ingestOut =
      some (ingestCellOf (attentionCode s) s.svc.summary (slotDue s) s.link.lane (composeEmitted s).1) ∧
    (composeCell s).link.inFlight = some ⟨(composeEmitted s).2.1, lastCopyDue s⟩ ∧
    (composeCell s).link.aborted = (composeEmitted s).2.2.link.aborted ∧
    (composeCell s).link.lane = s.link.lane ∧
    (composeCell s).store = (composeEmitted s).2.2.store ∧ (composeCell s).repair = s.repair ∧
    (composeCell s).reels = s.reels ∧ (composeCell s).svc = (composeSlot s).2.2.svc := by
  obtain ⟨hsvc, hreels, hrepair, hpause, hlane⟩ := composeEmitted_svc s
  obtain ⟨hword, hlast, hslot⟩ := composeSlot_congr hsvc
  obtain ⟨hstore, hlink, hreels', hrepair'⟩ := composeSlot_frame (composeEmitted s).2.2
  have hdue : (composeSlot (composeEmitted s).2.2).1 = slotDue s := hword.trans (composeSlot_word s)
  unfold composeCell lastCopyDue
  dsimp only
  rw [hdue, hlast, hlink]
  exact ⟨rfl, rfl, rfl, hlane, hstore, hrepair'.trans hrepair, hreels'.trans hreels, hslot⟩

/-- No word due, no last copy (R186). -/
theorem lastCopyDue_of_no_word (h : slotDue s = none) : lastCopyDue s = false := by
  unfold lastCopyDue
  obtain ⟨w, -, e⟩ | ⟨m, rest, w, -, -, -, e⟩ | ⟨-, e⟩ := composeSlot_cases s
  · have := composeSlot_word s
    rw [e, h] at this
    cases this
  · have := composeSlot_word s
    rw [e, h] at this
    cases this
  · rw [e]

/-- The transmit side counts a copy of the word of the head message, or takes the left-over word (R186, R194). -/
theorem composeSlot_copies {m : Message} {rest : List Message} {w : Word} (hl : s.svc.leftover = none)
    (hq : s.svc.queue = m :: rest) (hw : m.words[s.svc.copies / 2]? = some w) :
    slotDue s = some w ∧ lastCopyDue s = decide (s.svc.copies + 1 = 2 * m.words.length) ∧
    (composeSlot s).2.2.svc = { s.svc with copies := s.svc.copies + 1 } := by
  have hslot : composeSlot s = (some w, decide (s.svc.copies + 1 = 2 * m.words.length),
      { s with svc := { s.svc with copies := s.svc.copies + 1 } }) := by
    unfold composeSlot
    rw [hl]
    dsimp only
    rw [hq]
    dsimp only
    rw [hw]
  rw [← composeSlot_word, lastCopyDue, hslot]
  exact ⟨rfl, rfl, rfl⟩

end

/-! ## The cell sent -/

theorem completeCell_idle {s : State} (h : s.link.inFlight = none) : completeCell s = s := by
  unfold completeCell
  rw [h]

theorem completeCell_sent {s : State} {p : SentPart} {b : Bool} (h : s.link.inFlight = some ⟨p, b⟩) :
    completeCell s = settle s (sentPart p (cellEnded b s)) := by
  unfold completeCell
  rw [h]
  rfl

section
variable {s : State}

theorem exec_outgoing_underWay (hn : s.npor = true) (hf : s.link.inFlight = none) :
    exec (.ingestOutgoingCell .underWay) s = .next (composeCell s) := by
  refine (exec_powered rfl hn).trans (congrArg _ ?_)
  dsimp only
  rw [completeCell_idle hf]

theorem exec_outgoing_eq (hn : s.npor = true) :
    exec (.ingestOutgoingCell .whole) s = .next (completeCell (composeCell (completeCell s))) :=
  whilePowered_on (f := fun s => completeCell (composeCell (completeCell s))) hn

/-- A cell composed and sent before the next command (log 7). -/
theorem exec_outgoing_whole (hn : s.npor = true) (hf : s.link.inFlight = none) :
    exec (.ingestOutgoingCell .whole) s =
      .next (settle (composeCell s) (sentPart (composeEmitted s).2.1 (cellEnded (lastCopyDue s) (composeCell s)))) := by
  rw [exec_outgoing_eq hn, completeCell_idle hf]
  exact congrArg _ (completeCell_sent (composeCell_effects s).2.1)

end

/-! ## What the frame path sends -/

section
variable {s : State}

theorem composeEmitted_paused (h : s.link.pause = true) : composeEmitted s = (.idle, .plain, s) := if_pos h

theorem composeEmitted_aborted {a : RepairSummary} {rest : List RepairSummary} (hp : s.link.pause = false)
    (ha : s.link.aborted = a :: rest) :
    composeEmitted s = (.frameClose a, .plain, { s with link := { s.link with aborted := rest } }) := by
  unfold composeEmitted nextEmitted
  rw [hp, ha]
  rfl

theorem composeEmitted_emission {e : Emission} (hp : s.link.pause = false) (ha : s.link.aborted = [])
    (he : s.store.emission = some e) : composeEmitted s = ((emissionCell s e).1, (emissionCell s e).2,
      { s with store := { s.store with emission := some ⟨e.slot, e.pos + 1, e.status⟩ } }) := by
  unfold composeEmitted nextEmitted
  rw [hp, ha, he]
  rfl

theorem composeEmitted_control {c : Entry} {rest : List Entry} (hp : s.link.pause = false) (ha : s.link.aborted = [])
    (he : s.store.emission = none) (hl : s.store.list = c :: rest) (hc : isControl c = true) (hn : anyEmitting s = false) :
    composeEmitted s = (controlEmitted c, .control, s) := by
  unfold composeEmitted nextEmitted
  rw [hp, ha, he]
  dsimp only
  rw [hl]
  simp [hc, hn]

/-- A cell of no consequence sent moves nothing of the frame store (R17). -/
theorem exec_outgoing_plain (hn : s.npor = true) (hf : s.link.inFlight = none) (hp : (composeEmitted s).2.1 = .plain) :
    ∃ t, exec (.ingestOutgoingCell .whole) s = .next t ∧ t.store = (composeEmitted s).2.2.store ∧ t.repair = s.repair ∧
      t.link.aborted = (composeEmitted s).2.2.link.aborted ∧ t.link.ingestOut =
        some (ingestCellOf (attentionCode s) s.svc.summary (slotDue s) s.link.lane (composeEmitted s).1) ∧
      (s.reels.waiting = [] → t.reels = s.reels) := by
  obtain ⟨hout, -, haborted, -, hstore, hrepair, hreels, -⟩ := composeCell_effects s
  refine ⟨_, exec_outgoing_whole hn hf, ?_⟩
  rw [hp]
  refine ⟨by simp [sentPart, hstore], by simp [sentPart, hrepair], by simp [sentPart, haborted], by simp [sentPart, hout], fun hw => ?_⟩
  have hunwaited := (cellEnded_unwaited (s := composeCell s) (b := lastCopyDue s) fun _ => by rw [hreels, hw]).1
  simp [sentPart, hunwaited, hreels]

theorem emissionCell_plain {e : Emission} (h : e.pos ≤ linesToSend s e.slot) : (emissionCell s e).2 = .plain ∧
    (e.pos = 0 → (emissionCell s e).1 = .frameOpen e.status) ∧
    ∀ y, e.pos = y + 1 → (emissionCell s e).1 = .line (emittedLine s e.slot y) := by
  unfold emissionCell
  split
  · next h0 => exact ⟨rfl, fun _ => rfl, fun y hy => by omega⟩
  · next y hy =>
    rw [if_pos (by omega)]
    refine ⟨rfl, fun h0 => by omega, fun z hz => ?_⟩
    obtain rfl : y = z := by omega
    rfl

theorem emissionCell_close {e : Emission} (h : e.pos = linesToSend s e.slot + 1) :
    emissionCell s e = (.frameClose (summaryOf s e.slot false), .frameClose) := by
  unfold emissionCell
  rw [h]
  dsimp only
  rw [if_neg (by omega), if_pos rfl]

theorem emittedLine_untreated {k : Fin 4} {y : Nat} {px : List Pixel} (h : (s.slot k).lines[y]? = some px)
    (ht : (s.slot k).tag = none) : emittedLine s k y = px := by
  unfold emittedLine
  rw [ht]
  dsimp only
  rw [h]
  rfl

end

/-- Settles O29. -/
theorem ingestOutgoingCellFollowsTheEmission : Obligations.IngestOutgoingCellFollowsTheEmission := by
  unfold Obligations.IngestOutgoingCellFollowsTheEmission
  intro s hn hf
  refine ⟨fun hp => ?_, fun a rest ha hp => ?_, fun e he hp ha hpos => ?_, fun e he hp ha hpos => ?_,
    fun c rest hl hp ha he hne hc => ⟨?_, ?_⟩⟩
  · have hcomp := composeEmitted_paused hp
    obtain ⟨t, ht, h1, h2, h3, h4, -⟩ := exec_outgoing_plain hn hf (by rw [hcomp])
    rw [hcomp] at h1 h3 h4
    exact ⟨t, ht, h1, h2, h3, h4⟩
  · have hcomp := composeEmitted_aborted hp ha
    obtain ⟨t, ht, h1, h2, h3, h4, -⟩ := exec_outgoing_plain hn hf (by rw [hcomp])
    rw [hcomp] at h1 h3 h4
    exact ⟨t, ht, h1, h2, h3, h4⟩
  · have hcomp := composeEmitted_emission hp ha he
    obtain ⟨hplain, hopen, hline⟩ := emissionCell_plain hpos
    obtain ⟨t, ht, h1, h2, -, h4, h5⟩ := exec_outgoing_plain hn hf (by rw [hcomp]; exact hplain)
    rw [hcomp] at h1 h4
    exact ⟨t, ht, h1, h2, h5, fun h0 => by rw [h4, hopen h0], fun y hy => by rw [h4, hline y hy],
      fun y _ px hpx htag => emittedLine_untreated hpx htag⟩
  · have hcomp := composeEmitted_emission hp ha he
    rw [emissionCell_close hpos] at hcomp
    obtain ⟨hout, hflight, -, -, hstore, -, hreels, -⟩ := composeCell_effects s
    rw [hcomp] at hout hflight hstore
    exact ⟨_, exec_outgoing_underWay hn hf, by rw [hflight]; rfl, fun h => by rw [hflight, lastCopyDue_of_no_word s h],
      by rw [hstore], by rw [hstore], hreels, hout⟩
  · have hcomp := composeEmitted_control hp ha he hl hc hne
    obtain ⟨-, hflight, -, -, hstore, -⟩ := composeCell_effects s
    rw [hcomp] at hflight hstore
    exact ⟨_, exec_outgoing_underWay hn hf, hstore, by rw [hflight]; rfl,
      fun h => by rw [hflight, lastCopyDue_of_no_word s h]⟩
  · have hcomp := composeEmitted_control hp ha he hl hc hne
    obtain ⟨hout, -, -, -, hstore, -⟩ := composeCell_effects s
    have hexec := exec_outgoing_whole hn hf
    rw [hcomp] at hout hstore hexec
    refine ⟨_, hexec, ?_, ?_⟩
    · simp [sentPart, sendControl_eq, hstore, hl]
    · simp [sentPart, hout]

end Sys2Proof.Machine
end

section
/-! PROOFS. Messages sent word by word (R186), and the RESET verb with the cell that follows it (R20, R56, R194). -/
namespace Sys2Proof.Machine

-- One thread a theorem is too many for the joined text under its memory limit.
set_option Elab.async false

theorem fixedOf_frameEmitted (k : Fin 4) (s : State) : fixedOf (frameEmitted k s) = fixedOf s := by simp [fixedOf]

theorem fixedOf_sentPart (p : SentPart) (s : State) : fixedOf (sentPart p s) = fixedOf s := by
  unfold sentPart
  split
  · rfl
  · rw [sendControl_eq, fixedOf_checkHead]; rfl
  · split
    · next e _ =>
      rw [endEmission_eq, fixedOf_checkHead]
      split
      · rw [fixedOf_judgeStore, fixedOf_frameEmitted]
      · rw [fixedOf_frameEmitted]
    · rfl

/-- A part sent that is no FRAME_CLOSE ends no emission: the queue and the records' states stand (R47, R48). -/
theorem sentPart_reports {p : SentPart} (h : p ≠ .frameClose) (s : State) : (sentPart p s).svc = s.svc ∧
    (sentPart p s).reels.waiting = s.reels.waiting ∧ ∀ q, ((sentPart p s).reel q).state = (s.reel q).state := by
  cases p with
  | plain => exact ⟨rfl, rfl, fun _ => rfl⟩
  | control =>
    refine ⟨(sendControl_frame s).2.2.2.2.2.2.2, (checkHead_reports (controlSent s)).2.1, fun q => ?_⟩
    obtain ⟨a, b, c, d, e⟩ := checkHead_counts (controlSent s) q
    exact (congrArg ReelRecord.state e).trans rfl
  | frameClose => exact absurd rfl h

theorem sentPart_plain (s : State) : sentPart .plain s = s := rfl

theorem cellEnded_false (s : State) : cellEnded false s = flightEnded s := rfl

theorem bitOf_slotValid (attention : Nat) (summary : Bool) (w : Word) (e : Emitted) :
    bitOf (fld (emittedKind e) 28 ||| fld attention 25 ||| fld (flag summary) 24 ||| fld (flag (some w).isSome) 23 |||
      fld (countField e) 0) 23 = true := by
  have hbit : (fld (flag true) 23).getLsbD 23 = true := by decide
  unfold bitOf
  simp only [Option.isSome_some, BitVec.getLsbD_or, hbit, Bool.or_true, Bool.true_or]

/-- Settles O30. -/
theorem everyMessageWordGoesOutTwice : Obligations.EveryMessageWordGoesOutTwice := by
  unfold Obligations.EveryMessageWordGoesOutTwice
  intro s m rest w hn hf hl hq hw
  obtain ⟨hdue, hlast, hsvc⟩ := composeSlot_copies s hl hq hw
  obtain ⟨hout, -, -, hlane, -, -, hreels, hcsvc⟩ := composeCell_effects s
  rw [hsvc] at hcsvc
  rw [hdue] at hout
  have hcopies : (settle (composeCell s) (sentPart (composeEmitted s).2.1 (cellEnded (lastCopyDue s) (composeCell s)))).svc.copies =
      (cellEnded (lastCopyDue s) (composeCell s)).svc.copies :=
    (fixedOf_eq_iff.mp ((fixedOf_settle _ _).trans (fixedOf_sentPart _ _))).1.2.2.2.2.2.2.2.2.2.2.2.2.1
  refine ⟨_, exec_outgoing_whole hn hf, ⟨ingestCellOf (attentionCode s) s.svc.summary (some w) s.link.lane (composeEmitted s).1, _, _, ?_,
    rfl, bitOf_slotValid _ _ w _⟩, fun hlt => ?_, fun heq => ?_, fun hp => ⟨fun hlt => ?_, fun heq hwait => ?_, fun r heq hwait hnotice => ?_⟩⟩
  · simp [hout]
  · rw [hcopies, hlast, decide_eq_false (by omega)]
    exact congrArg Service.copies hcsvc
  · rw [hcopies, hlast, decide_eq_true heq, cellEnded_copies]
  · rw [(settle_svc_frame ..).2.2.1, (sentPart_reports hp _).1, hlast, decide_eq_false (by omega),
      show (cellEnded false (composeCell s)).svc = (composeCell s).svc from rfl, hcsvc]
  · rw [(settle_svc_frame ..).2.2.1, (sentPart_reports hp _).1, hlast, decide_eq_true heq,
      (cellEnded_unwaited (s := composeCell s) fun _ => by rw [hreels, hwait]).2, if_pos rfl, hcsvc, hq]
    rfl
  · have hwait' : (composeCell s).reels.waiting = [r] := by rw [hreels, hwait]
    have htail : (composeCell s).svc.queue.tail = rest := by rw [hcsvc, hq]; rfl
    obtain ⟨h1, h2, h3, -⟩ := cellEnded_notifies hwait' (by rw [htail]; exact hnotice)
    obtain ⟨hsent, hsentw, hsentr⟩ := sentPart_reports hp (cellEnded (lastCopyDue s) (composeCell s))
    have hreel : (composeCell s).reel r = s.reel r := reel_of_recs (congrArg (·.recs) hreels) r
    rw [hlast, decide_eq_true heq] at hsent hsentw hsentr
    rw [hlast, decide_eq_true heq]
    refine ⟨?_, ?_, ?_⟩
    · rw [(settle_frame _ _).2.2.2.1, hsentw, h1]
    · rw [settle_reel, hsentr, h2]
    · rw [(settle_svc_frame ..).2.2.1, hsent, h3, htail, hlane, hreel]

/-! ## RESET -/

section
variable (tag : Byte) (s : State)

/-- The state after a RESET verb. -/
def resetDone : State := runReset tag (endFraming s)

theorem exec_reset {s : State} (hn : s.npor = true) : exec (.reset tag []) s = .next (resetDone tag s) :=
  (exec_powered (verbCommand_effect .reset tag []) hn).trans (congrArg _ (runVerb_reset tag s))

theorem resetDone_settled : (resetDone tag s).loadHoldSettled := by
  have hnone : bothOccupied (resetDone tag s) = false := by
    unfold bothOccupied
    rw [List.all_eq_false]
    exact ⟨0, by simp [recIdx], by simp [resetDone, runReset, ReelRecord.occupied]⟩
  unfold State.loadHoldSettled
  rw [hnone, Bool.or_false]
  rfl

theorem resetDone_inFlight {f : InFlight} (h : (resetDone tag s).link.inFlight = some f) : f = ⟨.plain, false⟩ := by
  obtain ⟨g, -, e⟩ := Option.map_eq_some_iff.mp h
  exact e.symm

theorem resetDone_leftover : (∀ w, s.svc.leftover = some w → (resetDone tag s).svc.leftover = some w) ∧
    (s.svc.leftover = none → s.svc.copies % 2 = 1 → (resetDone tag s).svc.leftover = slotDue s) ∧
    (s.svc.leftover = none → s.svc.copies % 2 = 0 → (resetDone tag s).svc.leftover = none) := by
  change (∀ w, _ → leftoverWord s.svc = some w) ∧ (_ → _ → leftoverWord s.svc = slotDue s) ∧ (_ → _ → leftoverWord s.svc = none)
  unfold leftoverWord slotDue
  refine ⟨fun w h => by rw [h], fun h hc => ?_, fun h hc => ?_⟩
  · rw [h]
    cases s.svc.queue with
    | nil => rfl
    | cons m rest => exact if_pos hc
  · rw [h]
    cases s.svc.queue with
    | nil => rfl
    | cons m rest => exact if_neg (by omega)

/-- The cell under way at a RESET completes without any effect (R56). -/
theorem completeCell_resetDone : completeCell (resetDone tag s) = flightEnded (resetDone tag s) := by
  cases h : (resetDone tag s).link.inFlight with
  | none =>
    rw [completeCell_idle h]
    have hlink : (resetDone tag s).link = { (resetDone tag s).link with inFlight := none } := by rw [← h]
    exact congrArg (fun l => { resetDone tag s with link := l }) hlink
  | some f =>
    obtain rfl := resetDone_inFlight tag s h
    rw [completeCell_sent h]
    exact settle_same (resetDone_settled tag s) rfl rfl rfl rfl rfl rfl rfl rfl

end

/-- After a RESET no emission and no entry is left: the next cell carries the first aborted FRAME_CLOSE, or nothing in a pause
(R20, R56). -/
theorem composeEmitted_afterReset {t : State} (he : t.store.emission = none) (hl : t.store.list = []) :
    (composeEmitted t).2.1 = .plain ∧
    (t.link.pause = true → (composeEmitted t).1 = .idle ∧ (composeEmitted t).2.2.link.aborted = t.link.aborted) ∧
    ∀ a rest, t.link.aborted = a :: rest → t.link.pause = false →
      (composeEmitted t).1 = .frameClose a ∧ (composeEmitted t).2.2.link.aborted = rest := by
  refine ⟨?_, fun hp => by rw [composeEmitted_paused hp]; exact ⟨rfl, rfl⟩, fun a rest ha hp => by
    rw [composeEmitted_aborted hp ha]; exact ⟨rfl, rfl⟩⟩
  cases hp : t.link.pause with
  | true => rw [composeEmitted_paused hp]
  | false =>
    cases ha : t.link.aborted with
    | cons a rest => rw [composeEmitted_aborted hp ha]
    | nil =>
      unfold composeEmitted nextEmitted
      rw [hp, ha, he]
      dsimp only
      rw [hl]
      rfl

theorem resetReply_head (tag : Byte) :
    (replyWords (verbCode .reset) tag [outcomeWord .ok])[0 / 2]? = some (startWord 0x8D 1 tag.toNat) := rfl

/-- The cell sent right after a RESET, with the word left over or the first copy of the reply (R194). -/
theorem exec_outgoing_afterReset (tag : Byte) {s : State} (hn : s.npor = true) :
    ∃ u, exec (.ingestOutgoingCell .whole) (resetDone tag s) = .next u ∧
      u.link.aborted = (composeEmitted (flightEnded (resetDone tag s))).2.2.link.aborted ∧
      u.link.ingestOut = some (ingestCellOf (attentionCode (resetDone tag s)) true (slotDue (resetDone tag s)) s.link.lane
        (composeEmitted (flightEnded (resetDone tag s))).1) ∧
      u.svc.queue = (resetDone tag s).svc.queue ∧ u.svc.leftover = none ∧
      (∀ w, (resetDone tag s).svc.leftover = some w → u.svc.copies = 0) ∧
      ((resetDone tag s).svc.leftover = none → slotDue (resetDone tag s) = some (startWord 0x8D 1 tag.toNat) ∧ u.svc.copies = 1) := by
  obtain ⟨hout, hflight, haborted, -, -, -, -, hcsvc⟩ := composeCell_effects (flightEnded (resetDone tag s))
  have hplain := (composeEmitted_afterReset (t := flightEnded (resetDone tag s)) rfl rfl).1
  have hslot : lastCopyDue (flightEnded (resetDone tag s)) = false ∧
      (composeSlot (flightEnded (resetDone tag s))).2.2.svc.queue = (resetDone tag s).svc.queue ∧
      (composeSlot (flightEnded (resetDone tag s))).2.2.svc.leftover = none ∧
      (∀ w, (resetDone tag s).svc.leftover = some w → (composeSlot (flightEnded (resetDone tag s))).2.2.svc.copies = 0) ∧
      ((resetDone tag s).svc.leftover = none → slotDue (resetDone tag s) = some (startWord 0x8D 1 tag.toNat) ∧
        (composeSlot (flightEnded (resetDone tag s))).2.2.svc.copies = 1) := by
    cases h : (resetDone tag s).svc.leftover with
    | some w =>
      have hs : composeSlot (flightEnded (resetDone tag s)) = (some w, false, { flightEnded (resetDone tag s) with
          svc := { (resetDone tag s).svc with leftover := none } }) := by
        unfold composeSlot
        rw [show (flightEnded (resetDone tag s)).svc.leftover = some w from h]
        rfl
      rw [lastCopyDue, hs]
      exact ⟨rfl, rfl, rfl, fun _ _ => rfl, nofun⟩
    | none =>
      obtain ⟨hdue, hlast, hsvc⟩ := composeSlot_copies (flightEnded (resetDone tag s)) (rest := [])
        (w := startWord 0x8D 1 tag.toNat) h rfl
        (resetReply_head tag)
      rw [hlast, hsvc]
      exact ⟨rfl, rfl, h, nofun, fun _ => ⟨hdue, rfl⟩⟩
  obtain ⟨hlast, hqueue, hleft, hsome, hnone⟩ := hslot
  have hexec : exec (.ingestOutgoingCell .whole) (resetDone tag s) = .next (settle (composeCell (flightEnded (resetDone tag s)))
      (flightEnded (composeCell (flightEnded (resetDone tag s))))) := by
    rw [exec_outgoing_eq (s := resetDone tag s) hn, completeCell_resetDone, completeCell_sent hflight, hplain, hlast,
      sentPart_plain, cellEnded_false]
  refine ⟨_, hexec, by rw [(settle_frame _ _).2.2.1]; exact haborted, by rw [(settle_frame _ _).2.2.1]; exact hout, ?_, ?_, fun w hw => ?_, fun hw => ⟨(hnone hw).1, ?_⟩⟩
  · rw [(settle_svc_frame ..).2.2.1]
    exact (congrArg Service.queue hcsvc).trans hqueue
  · rw [(settle_svc_frame ..).2.2.2.2.1]
    exact (congrArg Service.leftover hcsvc).trans hleft
  · rw [(settle_svc_frame ..).2.2.2.1]
    exact (congrArg Service.copies hcsvc).trans (hsome w hw)
  · rw [(settle_svc_frame ..).2.2.2.1]
    exact (congrArg Service.copies hcsvc).trans (hnone hw).2

/-- Settles O5. -/
theorem resetAppliesEveryBlocksEffects : Obligations.ResetAppliesEveryBlocksEffects := by
  unfold Obligations.ResetAppliesEveryBlocksEffects
  intro tag s hn
  have hslot : ∀ k, (resetDone tag s).slot k = resetSlot (s.slot k) := fun k => resetBlocks_slot _ _ k
  obtain ⟨hleft, hodd, heven⟩ := resetDone_leftover tag s
  obtain ⟨u, hu, -, hout, hqueue, hnone, hword, hreply⟩ := exec_outgoing_afterReset tag hn
  refine ⟨_, exec_reset tag hn, rfl, hn, rfl, rfl, rfl, ?_, rfl, rfl, fun he => ?_, fun f hf => resetDone_inFlight tag s hf,
    fun r => resetBlocks_reel _ _ r, rfl, rfl, rfl, fun k hk => ?_, fun k hk => ?_, ?_⟩
  · show (match s.link.rx with
      | .between => RxState.between
      | _ => .ignoring) = _
    cases s.link.rx <;> rfl
  · show s.link.aborted ++ abortSummary (endFraming s) = _
    unfold abortSummary
    rw [show (endFraming s).store.emission = none from he]
    exact List.append_nil _
  · rw [hslot]
    exact (if_pos hk).trans rfl
  · rw [hslot]
    exact if_neg hk
  · refine ⟨rfl, rfl, rfl, rfl, rfl, rfl, rfl, rfl, rfl, rfl, rfl, rfl, rfl, rfl, rfl, rfl, rfl, rfl, rfl, rfl, rfl, rfl, rfl, rfl,
      rfl, rfl, rfl, rfl, rfl, rfl, rfl, rfl, rfl, rfl, rfl, rfl, rfl, rfl, rfl, rfl, rfl, rfl, rfl, rfl, rfl, rfl, rfl, hleft, hodd, heven,
      u, hu, hqueue, hnone, fun w hw => ⟨?_, hword w hw⟩, fun hw => ⟨?_, (hreply hw).2⟩⟩
    · have hdue : slotDue (resetDone tag s) = some w := by
        unfold slotDue
        rw [hw]
      rw [hout, hdue]
      rfl
    · rw [hout, (hreply hw).1]
      rfl

/-- Settles O6. -/
theorem resetAbortsTheEmission : Obligations.ResetAbortsTheEmission := by
  unfold Obligations.ResetAbortsTheEmission
  intro tag s e hn he
  obtain ⟨u, hu, haborted, hout, -⟩ := exec_outgoing_afterReset tag hn
  obtain ⟨-, hpaused, hfirst⟩ := composeEmitted_afterReset (t := flightEnded (resetDone tag s)) rfl rfl
  have hlist : (resetDone tag s).link.aborted = s.link.aborted ++ abortSummary (endFraming s) := rfl
  have hsummary : summaryOf (endFraming s) e.slot true = summaryOf s e.slot true := rfl
  refine ⟨_, u, exec_reset tag hn, hu, fun hf => ?_, fun f hf hp => ?_, fun a rest ha hp => ?_, fun hp => ?_⟩
  · rw [hlist, ← hsummary]
    unfold abortSummary
    rw [show (endFraming s).store.emission = some e from he]
    dsimp only
    split
    · next f hflight => exact absurd rfl (hf _ hflight)
    · rfl
  · rw [hlist]
    unfold abortSummary
    obtain ⟨p, l⟩ := f
    obtain rfl : p = .frameClose := hp
    rw [show (endFraming s).store.emission = some e from he, show (endFraming s).link.inFlight = _ from hf]
    exact List.append_nil _
  · obtain ⟨h1, h2⟩ := hfirst a rest ha hp
    exact ⟨haborted.trans h2, by rw [hout, h1]⟩
  · obtain ⟨h1, h2⟩ := hpaused hp
    exact ⟨haborted.trans h2, by rw [hout, h1]⟩

end Sys2Proof.Machine
end

section
/-! PROOFS. The cells of the scan port that write a frame: its lines (R8, R12) and its opening (R40 to R44, R90). -/
namespace Sys2Proof.Machine

-- One thread a theorem is too many for the joined text under its memory limit.
set_option Elab.async false

/-! ## The end of a scan cell's event -/

theorem sameTransport_settle {s t : State} (before : State) (h : t.xport = s.xport) : sameTransport s (settle before t) := by
  unfold sameTransport
  rw [settle_xport, h]

theorem sameReports_settle {s t : State} (before : State) (h : sameReports s t) : sameReports s (settle before t) := by
  simpa [sameReports] using h

theorem settle_channel {s t : State} (before : State) (h : fixedOf t = fixedOf s) : sameChannel s (settle before t) :=
  (fixedOf_eq_iff.mp ((fixedOf_settle t before).trans h)).1

theorem settle_tables {s t : State} (before : State) (h : fixedOf t = fixedOf s) : sameTables s (settle before t) :=
  (fixedOf_eq_iff.mp ((fixedOf_settle t before).trans h)).2

theorem cutShort_of_between {s : State} (h : s.link.rx = .between) : cutShort s = s := by
  unfold cutShort
  rw [h]

/-! ## Lines -/

/-- Condition bits follow no slot's content but its state and REG_HELD, and of the registration unit only the last frame's
REG_HELD (R192). -/
theorem conditionBits_of_held {s t : State} (hr : t.reels = s.reels) (hx : t.xport = s.xport) (hl : t.link = s.link)
    (hh : t.reg.lastHeld = s.reg.lastHeld) (hg : t.grade = s.grade) (hsh : t.shelf = s.shelf) (hsv : t.svc = s.svc)
    (hslot : ∀ k, (t.slot k).state = (s.slot k).state ∧ (t.slot k).regHeld = (s.slot k).regHeld) :
    conditionBits t = conditionBits s := by
  have hw : windowTainted t = windowTainted s := by
    unfold windowTainted
    simp only [hslot]
  unfold conditionBits activeRec acqLocked State.reel
  rw [hr, hx, hl, hh, hg, hsh, hsv, hw]

theorem loadHoldSettled_congr {s t : State} (hr : t.reels = s.reels) (hx : t.xport = s.xport) (h : s.loadHoldSettled) :
    t.loadHoldSettled := by
  unfold State.loadHoldSettled bothOccupied State.reel at *
  rw [hr, hx]
  exact h

/-- Settles O7. -/
theorem lineIsStoredAndSeen : Obligations.LineIsStoredAndSeen := by
  unfold Obligations.LineIsStoredAndSeen
  intro s k r px hn hload hrx htag hlen hroom
  have htake : takeLine px s = takeTreatedLine k r px s := by
    unfold takeLine
    simp [hrx, htag, hlen, hroom]
  have hslot : ∀ j, (takeTreatedLine k r px s).slot j =
      if j = k then storeLine px (seeLine px (s.slot k)) else s.slot j := fun j => by
    simp [takeTreatedLine, updSlot_slot]
  have hquiet : settle s (takeLine px s) = takeTreatedLine k r px s := by
    rw [htake]
    refine settle_quiet (loadHoldSettled_congr rfl rfl hload)
      (conditionBits_of_held rfl rfl rfl rfl rfl rfl rfl fun j => ?_)
    rw [hslot]
    split
    · next h => subst h; exact ⟨rfl, rfl⟩
    · exact ⟨rfl, rfl⟩
  refine ⟨_, (exec_settles rfl hn).trans (congrArg _ hquiet), ⟨_, rfl, ?_⟩, rfl, rfl, fun j hj => ?_, rfl, rfl, rfl, rfl, rfl,
    rfl, rfl, rfl, rfl, rfl, rfl, rfl, rfl⟩
  · rw [hslot, if_pos rfl]
    rfl
  · rw [hslot, if_neg hj]

/-- Settles O8. -/
theorem untreatedLineIsStoredOrEndsTheFrame : Obligations.UntreatedLineIsStoredOrEndsTheFrame := by
  unfold Obligations.UntreatedLineIsStoredOrEndsTheFrame
  intro s k px hn hload hrx htag
  refine ⟨fun hroom => ?_, fun hfull => ?_⟩
  · have hslot : ∀ j, (updSlot k (storeLine px) s).slot j = if j = k then storeLine px (s.slot k) else s.slot j :=
      fun j => by simp [updSlot_slot]
    have htake : takeLine px s = updSlot k (storeLine px) s := by
      unfold takeLine
      simp [hrx, htag, Config.maxLines, hroom]
    have hquiet : settle s (takeLine px s) = updSlot k (storeLine px) s := by
      rw [htake]
      refine settle_quiet (loadHoldSettled_congr rfl rfl hload)
        (conditionBits_of_held rfl rfl rfl rfl rfl rfl rfl fun j => ?_)
      rw [hslot]
      split
      · next h => subst h; exact ⟨rfl, rfl⟩
      · exact ⟨rfl, rfl⟩
    refine ⟨_, (exec_settles rfl hn).trans (congrArg _ hquiet), ?_, fun j hj => ?_, rfl, rfl, rfl, rfl, rfl, rfl, rfl, rfl, rfl⟩
    · rw [hslot, if_pos rfl]
      rfl
    · rw [hslot, if_neg hj]
  · have htake : takeLine px s = setRx .ignoring (checkHead (discardFrame k s)) := by
      unfold takeLine
      simp [hrx, htag, Config.maxLines, Nat.not_lt.mpr hfull]
    have hfree : ((discardFrame k s).slot k).state = .free := by
      rw [discardFrame_slot]
      simp
    refine ⟨_, exec_settles rfl hn, ?_, ?_, ?_, ?_, ?_, fun r => ?_, ?_, ?_, ?_, settle_channel s (fixedOf_takeLine s px)⟩
    · rw [settle_slot, htake, setRx_slot, checkHead_slot_of_not_closed (by rw [hfree]; decide)]
      exact hfree
    · rw [htake]; simp
    · rw [htake]; simp
    · rw [htake]; simp
    · rw [htake]; simp
    · obtain ⟨a, b, c, d, e⟩ := checkHead_counts (discardFrame k s) r
      rw [settle_reel, htake, setRx_reel, e]
      exact ⟨rfl, rfl⟩
    all_goals rw [htake]; simp

/-! ## A frame's opening -/

theorem freeSlotIdx_eq_some {s : State} {k : Fin 4} (hk : (s.slot k).state = .free)
    (h : ∀ j < k, (s.slot j).state ≠ .free) : freeSlotIdx s = some k := by
  have hsplit : slotIdx = slotIdx.filter (· < k) ++ k :: slotIdx.filter (k < ·) := by
    clear hk h; revert k; decide
  refine List.find?_eq_some_iff_append.mpr ⟨decide_eq_true hk, _, _, hsplit, fun j hj => ?_⟩
  have hlt : j < k := by simpa using (List.mem_filter.mp hj).2
  simpa using h j hlt

theorem checkHead_not_free {s : State} {j : Fin 4} (h : (s.slot j).state ≠ .free) : ((checkHead s).slot j).state ≠ .free := by
  obtain e | ⟨k, rest, -, -, hc, -, e⟩ := checkHead_cases s <;> rw [e]
  · exact h
  · rw [startEmission_slot]
    split
    · simp
    · exact h

theorem checkHead_link (s : State) (j : Fin 4) : ((checkHead s).slot j).link = (s.slot j).link := by
  rw [checkHead_slot]

theorem sameFrame_link (x : Slot) (l : SuccLink) : sameFrame x { x with link := l } :=
  ⟨rfl, rfl, rfl, rfl, rfl, rfl, rfl, rfl, rfl⟩

/-- A frame's opening writes counters of the ACTIVE record alone (R41, R42, R90). -/
theorem takeFrameOpen_record (n : Word) (step : Nat) (cls : SpeedClass) (s : State) (r : Fin 2) :
    (takeFrameOpen n step cls s).reel r = { s.reel r with
      counters := if activeRec s = some r then creditOpen cls (freeSlotIdx s).isSome (s.reel r).counters
        else (s.reel r).counters } := by
  rw [takeFrameOpen_reel, creditTo_reel]
  by_cases h : activeRec s = some r
  · have hf : (s.reel r).state ≠ .free := fun hfree => by
      have := isActive_of_activeRec h
      simp [ReelRecord.isActive, hfree] at this
    simp [h, hf]
  · simp [h]

theorem sameFrameCounts_creditOpen (cls : SpeedClass) (granted : Bool) (c : Counters) :
    sameFrameCounts c (creditOpen cls granted c) := ⟨rfl, rfl, rfl, rfl, rfl⟩

/-- The record of a reel after a frame's opening and the check of the head: the opening's credits of the ACTIVE record, and the
credits of an emission start (R41, R46, R90). -/
theorem frameOpened_record (n : Word) (step : Nat) (cls : SpeedClass) (s : State) (r : Fin 2) :
    ∃ c : Counters, (checkHead (takeFrameOpen n step cls s)).reel r = { s.reel r with counters := c } ∧
      sameFrameCounts (s.reel r).counters c ∧
      (activeRec s = some r → c.opened = credit32 (s.reel r).counters.opened 1 ∧
        c.dropped = credit32 (s.reel r).counters.dropped (flag (!(freeSlotIdx s).isSome)) ∧
        c.creep = credit32 (s.reel r).counters.creep (if cls = .s3 then 1 else 0)) ∧
      (activeRec s ≠ some r → c.opened = (s.reel r).counters.opened) := by
  obtain ⟨a, b, c, d, e⟩ := checkHead_counts (takeFrameOpen n step cls s) r
  rw [takeFrameOpen_record] at e
  by_cases h : activeRec s = some r
  · rw [if_pos h] at e
    exact ⟨_, e, ⟨rfl, rfl, rfl, rfl, rfl⟩, fun _ => ⟨rfl, rfl, by simp [creditOpen, flag_decide]⟩, fun hne => absurd h hne⟩
  · rw [if_neg h] at e
    exact ⟨_, e, ⟨rfl, rfl, rfl, rfl, rfl⟩, fun hr => absurd hr h, fun _ => rfl⟩

theorem exec_frameOpen {s : State} (n : Word) (step : Byte) (cls : SpeedClass) (hn : s.npor = true)
    (hrx : s.link.rx = .between) : exec (.frameOpen n step cls) s =
      .next (settle s (checkHead (takeFrameOpen n (clampStep step) cls s))) := by
  have h := exec_settles (c := .frameOpen n step cls)
    (work := fun u => checkHead (takeFrameOpen n (clampStep step) cls (cutShort u))) rfl hn
  rwa [cutShort_of_between hrx] at h

/-- Settles O11. -/
theorem frameOpenTakesTheLowestFreeSlot : Obligations.FrameOpenTakesTheLowestFreeSlot := by
  unfold Obligations.FrameOpenTakesTheLowestFreeSlot
  intro s k n step cls hn hrx hfree hlow
  have hg : freeSlotIdx s = some k := freeSlotIdx_eq_some hfree hlow
  obtain ⟨hfilling, hlist, hreg, hsvc, hslot⟩ := takeFrameOpen_granted n (clampStep step) cls hg
  have hk : (checkHead (takeFrameOpen n (clampStep step) cls s)).slot k = allocated s (activeRec s) n (clampStep step) cls := by
    rw [checkHead_slot_of_not_closed] <;> rw [hslot, if_pos rfl]
    simp [allocated]
  have hfixed : fixedOf (checkHead (takeFrameOpen n (clampStep step) cls s)) = fixedOf s := by simp
  refine ⟨_, exec_frameOpen n step cls hn hrx, by simp [hfilling], ?_⟩
  rw [settle_slot, hk]
  refine ⟨rfl, rfl, rfl, rfl, rfl, rfl, rfl, rfl, rfl, rfl, rfl, rfl, rfl, rfl, rfl, rfl, rfl, rfl, rfl, by simp [hlist], by simp,
    by simp [hreg], fun r hr => ?_, fun r => ?_, fun r hr => ?_, fun j hj => ?_, by simp, by simp, by simp, by simp [hsvc],
    sameTransport_settle s (by simp), sameReports_settle s (by simp [sameReports, hsvc]), settle_tables s hfixed,
    settle_channel s hfixed⟩
  · obtain ⟨c, e, -, hc, -⟩ := frameOpened_record n (clampStep step) cls s r
    obtain ⟨hopened, hdropped, hcreep⟩ := hc hr
    rw [settle_reel, e]
    exact ⟨hopened, hcreep, by simpa [hg, flag] using hdropped⟩
  · obtain ⟨c, e, hc, -, -⟩ := frameOpened_record n (clampStep step) cls s r
    rw [settle_reel, e]
    exact ⟨rfl, hc⟩
  · obtain ⟨c, e, -, -, hc⟩ := frameOpened_record n (clampStep step) cls s r
    rw [settle_reel, e]
    exact hc hr
  · obtain ⟨l, e⟩ := takeFrameOpen_slot_of_ne n (clampStep step) cls hg hj
    have h := checkHead_sameFrame (takeFrameOpen n (clampStep step) cls s) j
    rw [e] at h
    rw [settle_slot]
    exact h

/-- Settles O12. -/
theorem frameOpenWithoutASlotIsDropped : Obligations.FrameOpenWithoutASlotIsDropped := by
  unfold Obligations.FrameOpenWithoutASlotIsDropped
  intro s n step cls hn hrx hfull
  have hg : freeSlotIdx s = none := freeSlotIdx_eq_none.mpr hfull
  obtain ⟨hignoring, hlist, hreg, hsvc, hslot⟩ := takeFrameOpen_dropped n (clampStep step) cls hg
  have hfixed : fixedOf (checkHead (takeFrameOpen n (clampStep step) cls s)) = fixedOf s := by simp
  refine ⟨_, exec_frameOpen n step cls hn hrx, by simp [hignoring], by simp [hsvc], by simp [hlist], by simp, by simp [hreg],
    fun k => ?_, fun r hr => ?_, fun r => ?_, by simp, by simp, by simp, sameTransport_settle s (by simp),
    sameReports_settle s (by simp [sameReports, hsvc]), settle_tables s hfixed, settle_channel s hfixed⟩
  · obtain ⟨l, e⟩ := takeFrameOpen_slot_dropped n (clampStep step) cls hg k
    have hframe := checkHead_sameFrame (takeFrameOpen n (clampStep step) cls s) k
    rw [e] at hframe
    rw [settle_slot]
    refine ⟨hframe, checkHead_not_free (by rw [e]; exact hfull k), fun hl => ?_⟩
    rw [checkHead_link, hslot, if_pos ⟨hfull k, hl⟩]
  · obtain ⟨c, e, -, hc, -⟩ := frameOpened_record n (clampStep step) cls s r
    obtain ⟨hopened, hdropped, hcreep⟩ := hc hr
    rw [settle_reel, e]
    exact ⟨hopened, by simpa [hg, flag] using hdropped, hcreep⟩
  · obtain ⟨c, e, hc, -, -⟩ := frameOpened_record n (clampStep step) cls s r
    rw [settle_reel, e]
    exact ⟨rfl, hc⟩

/-- Settles O13. -/
theorem frameOpenSettlesTheSuccessorLink : Obligations.FrameOpenSettlesTheSuccessorLink := by
  unfold Obligations.FrameOpenSettlesTheSuccessorLink
  intro s j n step cls hn hrx hj hl
  refine ⟨_, exec_frameOpen n step cls hn hrx, fun k r hg ht hr hadj => ?_, fun hnot => ?_⟩ <;>
    rw [settle_slot, checkHead_link]
  · have hne : j ≠ k := fun e => hj (e ▸ free_of_freeSlotIdx hg)
    obtain ⟨-, -, -, -, hslot⟩ := takeFrameOpen_granted n (clampStep step) cls hg
    rw [hslot, if_neg hne, if_pos ⟨hj, hl⟩]
    simp [linkAtOpen, ht, hr, hadj]
  · cases hg : freeSlotIdx s with
    | none =>
      obtain ⟨-, -, -, -, hslot⟩ := takeFrameOpen_dropped n (clampStep step) cls hg
      rw [hslot, if_pos ⟨hj, hl⟩]
    | some k =>
      have hne : j ≠ k := fun e => hj (e ▸ free_of_freeSlotIdx hg)
      obtain ⟨-, -, -, -, hslot⟩ := takeFrameOpen_granted n (clampStep step) cls hg
      rw [hslot, if_neg hne, if_pos ⟨hj, hl⟩]
      refine if_neg fun ⟨htag, hsame, hadj⟩ => ?_
      obtain h | h | h | h := hnot
      · simp [hg] at h
      · simp [h] at htag
      · exact h hsame
      · exact h hadj

end Sys2Proof.Machine
end

section
/-! PROOFS. A control cell between frames (R10, R13, R43, R44), and the SPLICE (R52, R68, R115, R145). -/
namespace Sys2Proof.Machine

-- One thread a theorem is too many for the joined text under its memory limit.
set_option Elab.async false

/-! ## A control cell between frames -/

section
variable (e : Entry) (s : State)

@[simp] theorem appendControl_slot (k : Fin 4) : (appendControl e s).slot k = s.slot k := by
  obtain ⟨-, h⟩ | ⟨-, h⟩ := appendControl_cases e s <;> rw [h] <;> rfl

@[simp] theorem appendControl_reel (r : Fin 2) : (appendControl e s).reel r = s.reel r := reel_of_recs (by simp) r

@[simp] theorem appendControl_spliceSeen : (appendControl e s).store.spliceSeen = s.store.spliceSeen := by
  obtain ⟨-, h⟩ | ⟨-, h⟩ := appendControl_cases e s <;> simp [h]

/-- A control cell dropped by the frame store raises FRAME_LOST alone (R43). -/
@[simp] theorem appendControl_svc : (appendControl e s).svc.queue = s.svc.queue ∧
    (appendControl e s).svc.leftover = s.svc.leftover ∧
    (appendControl e s).svc.causes.acqFailed = s.svc.causes.acqFailed ∧
    (appendControl e s).svc.causes.linkFault = s.svc.causes.linkFault := by
  obtain ⟨-, h⟩ | ⟨-, h⟩ := appendControl_cases e s <;> rw [h] <;> exact ⟨rfl, rfl, rfl, rfl⟩

end

/-- The state the units take a control cell in between frames: the last frame's link settled to NONE (R44). -/
def linksEnded (s : State) : State := settleLinks (fun _ => .none) s

section
variable (s : State)

@[simp] theorem linksEnded_frame : (linksEnded s).pending = s.pending ∧ (linksEnded s).npor = s.npor ∧
    (linksEnded s).link = s.link ∧ (linksEnded s).reels = s.reels ∧ (linksEnded s).reg = s.reg ∧
    (linksEnded s).xport = s.xport ∧ (linksEnded s).defect = s.defect ∧ (linksEnded s).repair = s.repair ∧
    (linksEnded s).grade = s.grade ∧ (linksEnded s).shelf = s.shelf ∧ (linksEnded s).svc = s.svc ∧
    (linksEnded s).store.list = s.store.list := ⟨rfl, rfl, rfl, rfl, rfl, rfl, rfl, rfl, rfl, rfl, rfl, rfl⟩

@[simp] theorem linksEnded_reel (r : Fin 2) : (linksEnded s).reel r = s.reel r := rfl
@[simp] theorem linksEnded_activeRec : activeRec (linksEnded s) = activeRec s := rfl
@[simp] theorem linksEnded_freeRec : freeRec (linksEnded s) = freeRec s := rfl
@[simp] theorem linksEnded_closeTestFails (r : Fin 2) : closeTestFails (linksEnded s) r = closeTestFails s r := rfl
@[simp] theorem linksEnded_noticeFree : noticeFree (linksEnded s) = noticeFree s := rfl
@[simp] theorem linksEnded_fixedOf : fixedOf (linksEnded s) = fixedOf s := rfl

theorem linksEnded_slot (k : Fin 4) : ∃ l, (linksEnded s).slot k = { s.slot k with link := l } ∧
    ((s.slot k).state ≠ .free → (s.slot k).link = .unsettled → l = .none) := by
  unfold linksEnded
  rw [settleLinks_slot]
  split
  · exact ⟨_, rfl, fun _ _ => rfl⟩
  · next h => exact ⟨_, rfl, fun hs hl => absurd ⟨hs, hl⟩ h⟩

@[simp] theorem linksEnded_storeCount (r : Fin 2) : storeCount (linksEnded s) r = storeCount s r := by
  refine storeCount_congr (fun k => ?_) (fun k => ?_) r <;> obtain ⟨l, e, -⟩ := linksEnded_slot s k <;> rw [e]
  exact inStore_congr rfl

variable {s}

theorem controlCell_of_between (e : Entry) (work : State → State) (h : s.link.rx = .between) :
    controlCell e work s = checkHead (appendControl e (work (linksEnded s))) := by
  unfold controlCell linksEnded
  rw [cutShort_of_between h]

theorem exec_controlCell {c : Instr} {e : Entry} {work : State → State}
    (hc : exec c = whilePowered fun u => settle u (controlCell e work u)) (hn : s.npor = true) (hrx : s.link.rx = .between) :
    exec c s = .next (settle s (checkHead (appendControl e (work (linksEnded s))))) := by
  rw [← controlCell_of_between e work hrx]
  exact exec_settles (work := controlCell e work) hc hn

/-- A control cell leaves every stored frame, and an UNSETTLED link is NONE after it (R44). -/
theorem controlled_slot (e : Entry) {u : State} (hu : u.store.slots = (linksEnded s).store.slots) (k : Fin 4) :
    sameFrame (s.slot k) ((settle s (checkHead (appendControl e u))).slot k) ∧
    ((s.slot k).state ≠ .free → (s.slot k).link = .unsettled →
      ((settle s (checkHead (appendControl e u))).slot k).link = .none) := by
  obtain ⟨l, hl, hnone⟩ := linksEnded_slot s k
  have huk : (appendControl e u).slot k = { s.slot k with link := l } := by
    rw [appendControl_slot]
    unfold State.slot at hl ⊢
    rw [hu]
    exact hl
  have hframe := checkHead_sameFrame (appendControl e u) k
  rw [settle_slot]
  refine ⟨?_, fun hs hk => ?_⟩
  · rw [huk] at hframe
    exact hframe
  · rw [checkHead_link, huk]
    exact hnone hs hk

/-- A control cell joins the emission list where it holds fewer than 16 of them, and is lost otherwise (R43). -/
theorem controlled_list (e : Entry) {u : State} (hu : u.store.list = s.store.list) :
    ((s.store.list.filter isControl).length < 16 →
      (settle s (checkHead (appendControl e u))).store.list = s.store.list ++ [e] ∧
      (settle s (checkHead (appendControl e u))).svc.causes.frameLost = u.svc.causes.frameLost) ∧
    (16 ≤ (s.store.list.filter isControl).length →
      (settle s (checkHead (appendControl e u))).store.list = s.store.list ∧
      (settle s (checkHead (appendControl e u))).svc.causes.frameLost = true) := by
  rw [← hu]
  refine ⟨fun h => ?_, fun h => ?_⟩ <;> unfold appendControl Config.maxControls
  · simp [h]
  · simp [Nat.not_lt.mpr h, raiseCause, latchCause]

end

/-! ## The SPLICE -/

@[simp] theorem takeSplice_store (s : State) : (takeSplice s).store = { s.store with spliceSeen := true } := by
  unfold takeSplice
  dsimp only
  split <;> simp

@[simp] theorem takeSplice_fade (s : State) : (takeSplice s).grade.fade = setDirect s.grade.fade := by
  unfold takeSplice
  dsimp only
  split <;> simp

@[simp] theorem takeSplice_reports (s : State) : (takeSplice s).reels.last = s.reels.last ∧
    (takeSplice s).reels.waiting = s.reels.waiting ∧ (takeSplice s).reels.refused = s.reels.refused := by
  unfold takeSplice
  dsimp only
  split <;> simp

/-- With a record ACTIVE a SPLICE drops reference and tracks (R68, R115). -/
theorem takeSplice_active {s : State} {r : Fin 2} (h : activeRec s = some r) :
    (takeSplice s).defect = { s.defect with tracks := [] } ∧ (takeSplice s).reg = dropReference s.reg := by
  unfold takeSplice
  dsimp only
  rw [h]
  simp

theorem takeSplice_idle {s : State} (h : activeRec s = none) :
    (takeSplice s).defect = s.defect ∧ (takeSplice s).reg = s.reg := by
  unfold takeSplice
  dsimp only
  rw [h]
  exact ⟨rfl, rfl⟩

/-- A SPLICE credits the ACTIVE record with itself and with the confirmed tracks (R10, R115). -/
theorem takeSplice_record (s : State) (q : Fin 2) : (takeSplice s).reel q = { s.reel q with
    counters := if activeRec s = some q then
      { (s.reel q).counters with
        splices := credit32 (s.reel q).counters.splices 1
        scratches := credit32 (s.reel q).counters.scratches (confirmedCount s.defect.tracks) }
      else (s.reel q).counters } := by
  unfold takeSplice
  dsimp only
  cases h : activeRec s with
  | none => simp
  | some r =>
    have hf : (s.reel r).state ≠ .free := fun hfree => by
      have := isActive_of_activeRec h
      simp [ReelRecord.isActive, hfree] at this
    by_cases hq : q = r
    · subst hq
      simp [clearTracks, creditTo_reel, hf]
    · simp [clearTracks, creditTo_reel, Ne.symm hq]

/-- Settles O16. -/
theorem spliceIsNotedCreditedAndForwarded : Obligations.SpliceIsNotedCreditedAndForwarded := by
  unfold Obligations.SpliceIsNotedCreditedAndForwarded
  intro s hn hrx
  have hfixed : fixedOf (checkHead (appendControl .splice (takeSplice (linksEnded s)))) = fixedOf s := by simp
  have hrecord := fun r => checkHead_counts (appendControl .splice (takeSplice (linksEnded s))) r
  simp only [appendControl_reel, takeSplice_record, linksEnded_reel, linksEnded_activeRec, linksEnded_frame] at hrecord
  obtain ⟨hroom, hfull⟩ := controlled_list (s := s) .splice (u := takeSplice (linksEnded s)) (by simp)
  refine ⟨_, exec_controlCell (work := takeSplice) rfl hn hrx, by simp, by simp [setDirect], fun r hr => ?_, fun hnone => ?_,
    fun h => ?_, hfull, fun k => controlled_slot .splice (by simp) k, fun r => ?_, by simp [hrx], by simp,
    sameTransport_settle s (by simp), sameReports_settle s (by simp [sameReports]), settle_tables s hfixed,
    settle_channel s hfixed⟩
  · obtain ⟨hdefect, hreg⟩ := takeSplice_active (s := linksEnded s) hr
    obtain ⟨a, b, c, d, e⟩ := hrecord r
    rw [settle_reel, e, if_pos hr]
    exact ⟨by simp [hdefect], by simp [hreg, dropReference], rfl, rfl⟩
  · obtain ⟨hdefect, hreg⟩ := takeSplice_idle (s := linksEnded s) hnone
    refine ⟨by simp [hdefect], by simp [hreg], fun r => ?_⟩
    obtain ⟨a, b, c, d, e⟩ := hrecord r
    rw [settle_reel, e, hnone]
    rfl
  · simpa using hroom h
  · obtain ⟨a, b, c, d, e⟩ := hrecord r
    rw [settle_reel, e]
    refine ⟨rfl, ?_⟩
    split <;> exact ⟨⟨rfl, rfl, rfl, rfl, rfl⟩, rfl⟩

end Sys2Proof.Machine
end

section
/-! PROOFS. The ACTIVE reel's end (R27, R77, R86, R115) and the REEL_CLOSE. -/
namespace Sys2Proof.Machine

-- One thread a theorem is too many for the joined text under its memory limit.
set_option Elab.async false

/-! ## The close test and the reel drained -/

/-- The record of an ending reel after its close test (R77). -/
def closeTested (s : State) (r : Fin 2) : ReelRecord :=
  if collecting (s.reel r) then
    match s.reg.closeCopy with
    | some c => settleAcq c.acqMin c.unshrunkPitch s.reg.sum s.reg.count (s.reel r)
    | none => { s.reel r with state := .active .failed, acqOutcome := .failed }
  else s.reel r

/-- The record of a reel that has ended, before its store count is judged (R25, R27, R115). -/
def drainedRecord (implicit : Bool) (s : State) (r : Fin 2) : ReelRecord :=
  { closeTested s r with
    state := .draining
    closeMissing := (s.reel r).closeMissing || implicit
    counters := { (s.reel r).counters with
      scratches := credit32 (s.reel r).counters.scratches (confirmedCount s.defect.tracks) } }

section
variable (r : Fin 2) (s : State)

theorem closeTest_reel (q : Fin 2) : (closeTest r s).reel q = if q = r then closeTested s r else s.reel q := by
  unfold closeTest closeTested
  split
  · cases s.reg.closeCopy with
    | some c =>
      dsimp only
      split
      · exact updReel_reel ..
      · exact updReel_reel ..
    | none =>
      dsimp only
      rw [raiseCause_reel]
      exact updReel_reel ..
  · split
    · next h => rw [h]
    · rfl

/-- A close test that fails raises ACQ_FAILED; nothing else of the service engine moves (R77). -/
theorem closeTest_svc : (closeTest r s).svc =
    { s.svc with causes := { s.svc.causes with acqFailed := s.svc.causes.acqFailed || closeTestFails s r } } := by
  unfold closeTest closeTestFails
  cases hc : collecting (s.reel r) with
  | false => simp
  | true =>
    cases s.reg.closeCopy with
    | none => simp [raiseCause, latchCause]
    | some c =>
      by_cases hn : c.acqMin ≤ s.reg.count
      · simp [hn, Nat.not_lt.mpr hn]
      · simp [hn, Nat.lt_of_not_le hn, raiseCause, latchCause]

theorem closeTestFails_iff : closeTestFails s r = true ↔
    collecting (s.reel r) = true ∧ ∀ c, s.reg.closeCopy = some c → s.reg.count < c.acqMin := by
  unfold closeTestFails
  cases s.reg.closeCopy <;> simp

/-- A close test writes the acquisition's results alone (R77). -/
theorem closeTested_eq : ∃ st o p sh, closeTested s r =
    { s.reel r with state := st, acqOutcome := o, reelPitch := p, reelShrinkage := sh } := by
  unfold closeTested settleAcq
  split
  · split
    · split <;> exact ⟨_, _, _, _, rfl⟩
    · exact ⟨_, _, _, _, rfl⟩
  · exact ⟨_, _, _, _, rfl⟩

variable {r s}

theorem closeTested_idle (h : collecting (s.reel r) = false) : closeTested s r = s.reel r := by
  unfold closeTested
  simp [h]

theorem closeTested_state (h : (s.reel r).isActive = true) : (closeTested s r).state ≠ .free := by
  have hk := closeTest_kind r r s
  rw [closeTest_reel, if_pos rfl, (isActive_iff _).mp h] at hk
  intro hfree
  rw [hfree] at hk
  exact absurd hk (by decide)

variable (implicit : Bool)

@[simp] theorem reelDrained_frame : (reelDrained r implicit s).pending = s.pending ∧
    (reelDrained r implicit s).npor = s.npor ∧ (reelDrained r implicit s).link = s.link ∧
    (reelDrained r implicit s).store = s.store ∧ (reelDrained r implicit s).reg = s.reg ∧
    (reelDrained r implicit s).xport = s.xport ∧ (reelDrained r implicit s).repair = s.repair ∧
    (reelDrained r implicit s).grade = s.grade ∧ (reelDrained r implicit s).shelf = s.shelf ∧
    (reelDrained r implicit s).defect = { s.defect with tracks := [], tearMem := none } := by
  simp [reelDrained]

@[simp] theorem reelDrained_svc : (reelDrained r implicit s).svc =
    { s.svc with causes := { s.svc.causes with acqFailed := s.svc.causes.acqFailed || closeTestFails s r } } := by
  simp [reelDrained, closeTest_svc]

@[simp] theorem reelDrained_reports : (reelDrained r implicit s).reels.last = s.reels.last ∧
    (reelDrained r implicit s).reels.waiting = s.reels.waiting ∧
    (reelDrained r implicit s).reels.refused = s.reels.refused := by
  simp [reelDrained]

theorem reelDrained_reel (h : (s.reel r).isActive = true) (q : Fin 2) :
    (reelDrained r implicit s).reel q = if q = r then drainedRecord implicit s r else s.reel q := by
  have hs := closeTested_state h
  obtain ⟨st, o, p, sh, e⟩ := closeTested_eq r s
  unfold reelDrained drainedRecord clearTracks
  rw [e] at hs ⊢
  by_cases hq : q = r
  · subst hq
    simp [creditTo_reel, closeTest_reel, e, hs]
  · simp [creditTo_reel, closeTest_reel, hq, Ne.symm hq]

theorem storeCount_reelDrained : storeCount (reelDrained r implicit s) r = storeCount s r := by
  have hslot : ∀ k, (reelDrained r implicit s).slot k = s.slot k := slot_of_store (by simp)
  exact storeCount_congr (fun k => congrArg inStore (hslot k)) (fun k => congrArg Slot.tag (hslot k)) r

/-- A reel with frames in the store stays DRAINING (R28). -/
theorem closeReel_drains (h : 0 < storeCount s r) : closeReel r implicit s = reelDrained r implicit s := by
  rw [closeReel_eq]
  exact if_neg fun hc => absurd ((storeCount_reelDrained implicit).symm.trans hc.2) (by omega)

/-- A reel with none is disposed at once (R28). -/
theorem closeReel_disposes (ha : (s.reel r).isActive = true) (h : storeCount s r = 0) :
    closeReel r implicit s = disposeReel r (reelDrained r implicit s) := by
  rw [closeReel_eq]
  refine if_pos ⟨?_, (storeCount_reelDrained implicit).trans h⟩
  rw [reelDrained_reel implicit ha, if_pos rfl]
  rfl

/-- What a reel's end leaves of its record (R27). -/
theorem drainedRecord_keeps : (drainedRecord implicit s r).header = (s.reel r).header ∧
    (drainedRecord implicit s r).maxGain = (s.reel r).maxGain ∧
    (drainedRecord implicit s r).peakShrinkage = (s.reel r).peakShrinkage ∧
    (collecting (s.reel r) = false → (drainedRecord implicit s r).reelShrinkage = (s.reel r).reelShrinkage ∧
      (drainedRecord implicit s r).acqOutcome = (s.reel r).acqOutcome) := by
  obtain ⟨st, o, p, sh, e⟩ := closeTested_eq r s
  refine ⟨(congrArg ReelRecord.header e :), (congrArg ReelRecord.maxGain e :),
    (congrArg ReelRecord.peakShrinkage e :), fun h => ?_⟩
  unfold drainedRecord
  rw [closeTested_idle h]
  exact ⟨rfl, rfl⟩

end

@[simp] theorem linksEnded_drainedRecord (implicit : Bool) (s : State) (r : Fin 2) :
    drainedRecord implicit (linksEnded s) r = drainedRecord implicit s r := rfl

/-! ## The REEL_CLOSE -/

/-- The record of a reel after its end and the check of the head. -/
theorem checkHead_record {u : State} {x : ReelRecord} {r : Fin 2} (h : u.reel r = x) : ∃ c, (checkHead u).reel r = { x with counters := c } ∧
    c.scratches = x.counters.scratches := by
  obtain ⟨a, b, c, d, e⟩ := checkHead_counts u r
  rw [h] at e
  exact ⟨_, e, rfl⟩

theorem exec_reelClose {s : State} (hn : s.npor = true) (hrx : s.link.rx = .between) : exec .reelClose s =
    .next (settle s (checkHead (appendControl .reelClose (takeReelClose (linksEnded s))))) :=
  exec_controlCell (work := takeReelClose) rfl hn hrx

theorem takeReelClose_active {s : State} {r : Fin 2} (h : activeRec s = some r) :
    takeReelClose s = { closeReel r false s with xport := transportIdle (closeReel r false s).xport } := by
  unfold takeReelClose
  rw [h]

theorem takeReelClose_idle {s : State} (h : activeRec s = none) : takeReelClose s = s := by
  unfold takeReelClose
  rw [h]

/-- Settles O17. -/
theorem reelCloseDrainsTheReel : Obligations.ReelCloseDrainsTheReel := by
  unfold Obligations.ReelCloseDrainsTheReel
  intro s r hn hrx hr hz
  have ha := isActive_of_activeRec hr
  have htake : takeReelClose (linksEnded s) = { reelDrained r false (linksEnded s) with
      xport := transportIdle (reelDrained r false (linksEnded s)).xport } := by
    rw [takeReelClose_active (r := r) (by simpa using hr), closeReel_drains false (by simpa using hz)]
  have hfixed : fixedOf (checkHead (appendControl .reelClose (takeReelClose (linksEnded s)))) = fixedOf s := by simp
  obtain ⟨hroom, -⟩ := controlled_list (s := s) .reelClose (u := takeReelClose (linksEnded s)) (by simp)
  obtain ⟨cs, e, hscratch⟩ := checkHead_record (r := r) (u := appendControl .reelClose (takeReelClose (linksEnded s)))
    (x := drainedRecord false s r) (by
      rw [appendControl_reel, htake]
      exact (reelDrained_reel false (s := linksEnded s) ha r).trans (if_pos rfl))
  have hacq : (settle s (checkHead (appendControl .reelClose (takeReelClose (linksEnded s))))).svc.causes.acqFailed =
      (s.svc.causes.acqFailed || closeTestFails s r) := by
    simp [htake]
  obtain ⟨hheader, -, -, hidle⟩ := drainedRecord_keeps (s := s) (r := r) false
  refine ⟨_, exec_reelClose hn hrx, ?_⟩
  rw [settle_reel, e, hacq]
  refine ⟨rfl, hheader, by simp [drainedRecord], fun hc => ?_, fun c hcopy hc hm => ?_, fun c hcopy hc hm => ?_, fun hc hcopy => ?_,
    hscratch, by simp [htake], by simp [htake, transportIdle], by simp [htake, transportIdle], by simp, by simp [htake],
    by simp [htake], fun h => (hroom h).1, fun k => controlled_slot .reelClose (by simp) k, by simp [htake], by simp [htake],
    settle_tables s hfixed, settle_channel s hfixed⟩
  · simp [drainedRecord, closeTested_idle hc, closeTestFails, hc]
  · simp [drainedRecord, closeTested, closeTestFails, hc, hcopy, settleAcq, hm, meanPitch, Nat.not_lt.mpr hm]
  · simp [drainedRecord, closeTested, closeTestFails, hc, hcopy, settleAcq, hm, Nat.not_le.mpr hm]
  · simp [drainedRecord, closeTested, closeTestFails, hc, hcopy]

theorem checkHead_state (s : State) (q : Fin 2) : ((checkHead s).reel q).state = (s.reel q).state := by
  obtain ⟨a, b, c, d, e⟩ := checkHead_counts s q
  rw [e]

theorem drainedRecord_counters (implicit : Bool) (s : State) (r : Fin 2) : (drainedRecord implicit s r).counters =
    { (s.reel r).counters with
      scratches := credit32 (s.reel r).counters.scratches (confirmedCount s.defect.tracks) } := rfl

theorem reelDrained_noticeFree (implicit : Bool) {s : State} (r : Fin 2) :
    noticeFree (reelDrained r implicit s) = noticeFree s := noticeFree_congr (by simp)

theorem takeReelClose_blocks {s : State} {r : Fin 2} (h : activeRec s = some r) :
    (takeReelClose s).reels = (closeReel r false s).reels ∧ (takeReelClose s).svc = (closeReel r false s).svc ∧
    (takeReelClose s).shelf = (closeReel r false s).shelf ∧
    (takeReelClose s).xport = transportIdle (closeReel r false s).xport := by
  rw [takeReelClose_active h]
  exact ⟨rfl, rfl, rfl, rfl⟩

/-- A REEL_CLOSE of an ACTIVE reel with no frame in the store, its notice position free (R28, R30, R86). -/
theorem takeReelClose_notified {s : State} {r : Fin 2} {d : ReelRecord} (hr : activeRec s = some r) (hz : storeCount s r = 0)
    (hfree : noticeFree s = true) (hw : s.reels.waiting = [])
    (hd : d = { (dispose s.shelf (drainedRecord false s r)).1 with state := .disposing }) :
    (takeReelClose s).reels.last = d ∧ (takeReelClose s).reels.waiting = [] ∧
    (takeReelClose s).svc.queue = s.svc.queue ++ [⟨true, noticeWords s.link.lane d⟩] ∧
    (takeReelClose s).shelf = (dispose s.shelf (drainedRecord false s r)).2 ∧
    (takeReelClose s).xport.cls = s.xport.ceiling ∧
    ∀ q, ((takeReelClose s).reel q).state = if q = r then .free else (s.reel q).state := by
  have ha := isActive_of_activeRec hr
  have hx := reelDrained_reel false ha
  obtain ⟨hlast, hwaiting, -, hsvc, hreel⟩ := disposeReel_notified (r := r) (s := reelDrained r false s) (d := d)
    (by rw [hx, if_pos rfl, hd]; simp) ((reelDrained_noticeFree false r).trans hfree) (by simp [hw])
  have hcls : (disposeReel r (reelDrained r false s)).xport.ceiling = s.xport.ceiling := by
    rw [disposeReel_eq]
    simp [enterWaiting_xport]
  obtain ⟨hreels, heqsvc, heqshelf, hxport⟩ := takeReelClose_blocks hr
  rw [closeReel_disposes false ha hz] at hreels heqsvc heqshelf hxport
  rw [hreels, heqsvc, heqshelf, hxport]
  refine ⟨hlast, hwaiting, by simp [hsvc], by simp [hx], hcls, fun q => ?_⟩
  rw [reel_of_recs (congrArg ReelTable.recs hreels), hreel]
  split
  · rfl
  · next hq => rw [hx, if_neg hq]

theorem controlled_state (e : Entry) (s u : State) (q : Fin 2) :
    ((settle s (checkHead (appendControl e u))).reel q).state = (u.reel q).state := by
  rw [settle_reel, checkHead_state, appendControl_reel]

theorem reelCloseDisposes_active {s : State} {r : Fin 2} (hn : s.npor = true) (hrx : s.link.rx = .between)
    (hr : activeRec s = some r) (hz : storeCount s r = 0) (hfree : noticeFree s = true) (hw : s.reels.waiting = []) :
    ∃ t x, exec .reelClose s = .next t ∧ (t.reel r).state = .free ∧ x.header = (s.reel r).header ∧
      x.state = .draining ∧ x.maxGain = (s.reel r).maxGain ∧ x.peakShrinkage = (s.reel r).peakShrinkage ∧
      x.counters.scratches = credit32 (s.reel r).counters.scratches (confirmedCount s.defect.tracks) ∧
      x.counters = { (s.reel r).counters with scratches := x.counters.scratches } ∧
      (collecting (s.reel r) = false → x.reelShrinkage = (s.reel r).reelShrinkage ∧
        x.acqOutcome = (s.reel r).acqOutcome) ∧
      t.reels.last = { (dispose s.shelf x).1 with state := .disposing } ∧ t.shelf = (dispose s.shelf x).2 ∧
      t.svc.queue = s.svc.queue ++ [⟨true, noticeWords s.link.lane t.reels.last⟩] ∧ t.reels.waiting = [] ∧
      (∀ q, q ≠ r → (t.reel q).state = (s.reel q).state) ∧ t.xport.cls = s.xport.ceiling ∧
      ((s.store.list.filter isControl).length < 16 → t.store.list = s.store.list ++ [.reelClose]) ∧
      (∀ k, sameFrame (s.slot k) (t.slot k) ∧
        ((s.slot k).state ≠ .free → (s.slot k).link = .unsettled → (t.slot k).link = .none)) ∧
      sameTables s t ∧ sameChannel s t := by
  obtain ⟨hlast, hwaiting, hqueue, hshelf, hcls, hstate⟩ := takeReelClose_notified (s := linksEnded s) (r := r)
    (d := { (dispose s.shelf (drainedRecord false s r)).1 with state := .disposing }) hr (by simpa using hz) hfree hw rfl
  have hfixed : fixedOf (checkHead (appendControl .reelClose (takeReelClose (linksEnded s)))) = fixedOf s := by simp
  have hslots : (takeReelClose (linksEnded s)).store = (linksEnded s).store := by simp
  obtain ⟨hheader, hgain, hpeak, hidle⟩ := drainedRecord_keeps (s := s) (r := r) false
  refine ⟨_, drainedRecord false s r, exec_reelClose hn hrx, ?_⟩
  generalize takeReelClose (linksEnded s) = u at *
  refine ⟨(controlled_state ..).trans ((hstate r).trans (if_pos rfl)), hheader, rfl, hgain, hpeak, rfl, rfl, hidle,
    by simp [hlast], by simpa using hshelf, by simpa [hlast] using hqueue, by simp [hwaiting],
    fun q hq => (controlled_state ..).trans ((hstate q).trans (if_neg hq)), by simpa using hcls,
    fun h => ((controlled_list (s := s) .reelClose (by simp [hslots])).1 h).1,
    fun k => controlled_slot .reelClose (by simp [hslots]) k, settle_tables s hfixed, settle_channel s hfixed⟩

/-- Settles O18. -/
theorem reelCloseDisposesAnEmptyReel : Obligations.ReelCloseDisposesAnEmptyReel := by
  unfold Obligations.ReelCloseDisposesAnEmptyReel
  refine ⟨fun s r hn hrx hr hz hfree hw => reelCloseDisposes_active hn hrx hr hz hfree hw, fun s hn hrx hr => ?_⟩
  have htake : takeReelClose (linksEnded s) = linksEnded s := takeReelClose_idle (by simpa using hr)
  have hfixed : fixedOf (checkHead (appendControl .reelClose (takeReelClose (linksEnded s)))) = fixedOf s := by simp
  obtain ⟨hroom, -⟩ := controlled_list (s := s) .reelClose (u := takeReelClose (linksEnded s)) (by simp)
  refine ⟨_, exec_reelClose hn hrx, fun q => ?_, by simp [htake], fun h => (hroom h).1,
    fun k => controlled_slot .reelClose (by simp) k, by simp, by simp [htake], by simp [htake], by simp [htake],
    by simp [htake], settle_tables s hfixed, settle_channel s hfixed⟩
  rw [controlled_state, htake, linksEnded_reel]

end Sys2Proof.Machine
end

section
/-! PROOFS. The REEL_OPEN (R23 to R26, R82, R86, R91, R115, R145). -/
namespace Sys2Proof.Machine

-- One thread a theorem is too many for the joined text under its memory limit.
set_option Elab.async false

/-! ## The lowest-numbered FREE record -/

theorem freeRec_eq_some {s : State} {r : Fin 2} (hr : (s.reel r).state = .free) (h : ∀ q < r, (s.reel q).state ≠ .free) :
    freeRec s = some r := by
  have hsplit : recIdx = recIdx.filter (· < r) ++ r :: recIdx.filter (r < ·) := by
    clear hr h; revert r; decide
  refine List.find?_eq_some_iff_append.mpr ⟨decide_eq_true hr, _, _, hsplit, fun q hq => ?_⟩
  have hlt : q < r := by simpa using (List.mem_filter.mp hq).2
  simpa using h q hlt

theorem eq_or_eq_of_ne {q r : Fin 2} (h : q ≠ r) (p : Fin 2) : p = q ∨ p = r := by omega

/-- With one record occupied the other opens if it is FREE (R23). -/
theorem freeRec_of_occupied {s : State} {q r : Fin 2} (hne : q ≠ r) (hr : (s.reel r).state ≠ .free) :
    freeRec s = if (s.reel q).state = .free then some q else none := by
  split
  · next hq =>
    refine freeRec_eq_some hq fun p hp => ?_
    obtain rfl | rfl := eq_or_eq_of_ne hne p
    · exact absurd hp (lt_irrefl _)
    · exact hr
  · next hq =>
    refine freeRec_eq_none.mpr fun p => ?_
    obtain rfl | rfl := eq_or_eq_of_ne hne p
    · exact hq
    · exact hr

/-- With one record FREE it opens, unless the other is FREE and of lower number (R23). -/
theorem freeRec_of_free {s : State} {q r : Fin 2} (hne : q ≠ r) (hr : (s.reel r).state = .free) :
    freeRec s = some (if q < r ∧ (s.reel q).state = .free then q else r) := by
  split
  · next h =>
    refine freeRec_eq_some h.2 fun p hp => ?_
    obtain rfl | rfl := eq_or_eq_of_ne hne p <;> omega
  · next h =>
    refine freeRec_eq_some hr fun p hp hfree => ?_
    obtain rfl | rfl := eq_or_eq_of_ne hne p
    · exact h ⟨hp, hfree⟩
    · exact absurd hp (lt_irrefl _)

theorem openOrRefuse_opens {s : State} {r : Fin 2} (h : ReelHeader) (ended keepFailed : Bool) (hr : freeRec s = some r) :
    openOrRefuse h ended keepFailed s = openReel r h keepFailed s := by
  unfold openOrRefuse
  rw [hr]

theorem openOrRefuse_refuses {s : State} (h : ReelHeader) (ended keepFailed : Bool) (hr : freeRec s = none) :
    openOrRefuse h ended keepFailed s = { s with
      reels := { s.reels with refused := satAdd 65535 s.reels.refused 1 }
      xport := if ended then transportIdle s.xport else s.xport } := by
  unfold openOrRefuse
  rw [hr]

/-! ## The head checked with no frame of a record in the store -/

theorem noFrameOf_congr {s t : State} {r : Fin 2}
    (h : ∀ k, (t.slot k).state = (s.slot k).state ∧ (t.slot k).tag = (s.slot k).tag) (hs : noFrameOf s r) :
    noFrameOf t r := fun k hk => by
  obtain ⟨hstate, htag⟩ := h k
  rw [htag]
  rw [hstate] at hk
  exact hs k hk

/-- An emission start credits the record of a stored frame alone (R46). -/
theorem checkHead_reel_of_noFrame {s : State} {r : Fin 2} (h : noFrameOf s r) : (checkHead s).reel r = s.reel r := by
  obtain e | ⟨k, rest, -, -, hc, -, e⟩ := checkHead_cases s <;> rw [e]
  have hne : (s.slot k).tag ≠ some r := h k (by rw [hc]; decide)
  cases ht : (s.slot k).tag with
  | none => exact reel_of_recs (congrArg ReelTable.recs (startEmission_untreated ht).2.2) r
  | some q =>
    have hq : ¬ q = r := fun e => hne (ht.trans (congrArg some e))
    rw [(startEmission_treated ht).2.2 r]
    unfold planFrame takeTrim
    dsimp only
    split <;> simp [creditTo_reel, hq]

/-! ## What a REEL_OPEN leaves -/

theorem exec_reelOpen {s : State} (h : RawHeader) (hn : s.npor = true) (hrx : s.link.rx = .between) : exec (.reelOpen h) s =
    .next (settle s (checkHead (appendControl (.reelOpen (clampHeader h)) (takeReelOpen (clampHeader h) (linksEnded s))))) :=
  exec_controlCell (work := takeReelOpen (clampHeader h)) rfl hn hrx

theorem takeReelOpen_idle {s : State} (h : ReelHeader) (hr : activeRec s = none) :
    takeReelOpen h s = openOrRefuse h false false s := by
  unfold takeReelOpen
  rw [hr]

theorem takeReelOpen_active {s : State} {r : Fin 2} (h : ReelHeader) (hr : activeRec s = some r) :
    takeReelOpen h s = openOrRefuse h true (closeTestFails s r) (closeReel r true s) := by
  unfold takeReelOpen
  rw [hr]

section
variable {s w : State} {o : Fin 2} (h : ReelHeader) (keepFailed : Bool) (e : Entry)

/-- The record opened, with no frame of an earlier reel of it in the store (R24). -/
theorem opened_record (hw : w.store = (linksEnded s).store) (hno : noFrameOf s o) :
    (settle s (checkHead (appendControl e (openReel o h keepFailed w)))).reel o = openedRecord h w.grade := by
  rw [settle_reel, checkHead_reel_of_noFrame, appendControl_reel, openReel_reel, if_pos rfl]
  refine noFrameOf_congr (fun k => ?_) hno
  obtain ⟨l, hl, -⟩ := linksEnded_slot s k
  rw [appendControl_slot, openReel_slot, slot_of_store hw, hl]
  exact ⟨rfl, rfl⟩

/-- The record opened, whatever frames of an earlier reel are KEPT (R24). -/
theorem opened_header : ∃ c,
    (settle s (checkHead (appendControl e (openReel o h keepFailed w)))).reel o =
      { openedRecord h w.grade with counters := c } := by
  obtain ⟨c, hc, -⟩ := checkHead_record (r := o) (u := appendControl e (openReel o h keepFailed w))
    (x := openedRecord h w.grade) (by rw [appendControl_reel, openReel_reel, if_pos rfl])
  exact ⟨c, (settle_reel ..).trans hc⟩

theorem opened_other {q : Fin 2} (hq : q ≠ o) :
    ((settle s (checkHead (appendControl e (openReel o h keepFailed w)))).reel q).state = (w.reel q).state := by
  rw [controlled_state, openReel_reel, if_neg hq]

/-- Transport control at a reel's opening (R86, R91). -/
theorem transportOpen_cls (step : Nat) (x : Transport) :
    (transportOpen step x).cls = if rank x.ceiling ≤ 2 then .s2 else x.ceiling := by
  unfold transportOpen atCeiling
  dsimp only
  cases x.ceiling <;> rfl

end

/-- Settles O19. -/
theorem reelOpenOpensTheLowestFreeRecord : Obligations.ReelOpenOpensTheLowestFreeRecord := by
  unfold Obligations.ReelOpenOpensTheLowestFreeRecord
  intro s h r hn hrx hidle hfree hlow hno
  have hfixed : fixedOf (checkHead (appendControl (.reelOpen (clampHeader h))
    (takeReelOpen (clampHeader h) (linksEnded s)))) = fixedOf s := by simp
  have htake : takeReelOpen (clampHeader h) (linksEnded s) = openReel r (clampHeader h) false (linksEnded s) := by
    rw [takeReelOpen_idle _ (by simpa using hidle), openOrRefuse_opens _ _ _ (by simpa using freeRec_eq_some hfree hlow)]
  have hexec := exec_reelOpen h hn hrx
  have hrecord := opened_record (clampHeader h) false (.reelOpen (clampHeader h)) (w := linksEnded s) rfl hno
  obtain ⟨hroom, -⟩ := controlled_list (s := s) (.reelOpen (clampHeader h))
    (u := openReel r (clampHeader h) false (linksEnded s)) (by simp)
  rw [htake] at hexec hfixed
  refine ⟨_, hexec, ?_⟩
  rw [hrecord]
  refine ⟨rfl, rfl, rfl, rfl, rfl, rfl, rfl, rfl, rfl, rfl, rfl, rfl, rfl, rfl, fun q hq => opened_other _ _ _ hq, by simp,
    by simp [regOpen, dropReference], by simp [transportOpen_cls], by simp [transportOpen, atCeiling],
    by simp [transportOpen, atCeiling], by simp [transportOpen], by simp [transportOpen],
    by simp [transportOpen, atCeiling], by simp [transportOpen], by simp, by simp [setDirect], by simp [setDirect],
    by simp [setDirect], by simp, fun hl => (hroom hl).1, fun k => controlled_slot _ (by simp) k, by simp,
    by simp [transportOpen, atCeiling], by simp [transportOpen, atCeiling], sameReports_settle s (by simp [sameReports]),
    settle_tables s hfixed, settle_channel s hfixed⟩

/-! ## A REEL_OPEN refused, or with a reel ACTIVE before it -/

/-- What a REEL_OPEN leaves where a record opens, in terms of the state after the reel before it has ended (R24, R86). -/
theorem opened_units (s : State) {w : State} {o : Fin 2} (h : ReelHeader) (keepFailed : Bool) (e : Entry) :
    (settle s (checkHead (appendControl e (openReel o h keepFailed w)))).reels.refused = w.reels.refused ∧
    (settle s (checkHead (appendControl e (openReel o h keepFailed w)))).xport.cmdStep = h.step ∧
    (settle s (checkHead (appendControl e (openReel o h keepFailed w)))).xport.cls =
      (if rank w.xport.ceiling ≤ 2 then .s2 else w.xport.ceiling) ∧
    (settle s (checkHead (appendControl e (openReel o h keepFailed w)))).svc.causes.acqFailed =
      (w.svc.causes.acqFailed && keepFailed) := by
  refine ⟨by simp, by simp [transportOpen], by simp [transportOpen_cls], by simp⟩

/-- The record opened, read off (R24). -/
theorem opened_fields (s : State) {w : State} {o : Fin 2} (h : ReelHeader) (keepFailed : Bool) (e : Entry) :
    ((settle s (checkHead (appendControl e (openReel o h keepFailed w)))).reel o).state = .active .acquiring ∧
    ((settle s (checkHead (appendControl e (openReel o h keepFailed w)))).reel o).header = h ∧
    ((settle s (checkHead (appendControl e (openReel o h keepFailed w)))).reel o).closeMissing = false := by
  obtain ⟨c, hc⟩ := opened_header (s := s) (w := w) (o := o) h keepFailed e
  rw [hc]
  exact ⟨rfl, rfl, rfl⟩

theorem takeReelOpen_refused_idle {s : State} (h : ReelHeader) (hr : activeRec s = none) (hfull : ∀ q, (s.reel q).state ≠ .free) :
    takeReelOpen h s = { s with reels := { s.reels with refused := satAdd 65535 s.reels.refused 1 } } := by
  rw [takeReelOpen_idle h hr, openOrRefuse_refuses h _ _ (freeRec_eq_none.mpr hfull)]
  rfl

/-- A REEL_OPEN with no record ACTIVE and none FREE is refused (R26). -/
theorem reelOpen_refused {s : State} (h : RawHeader) (hn : s.npor = true) (hrx : s.link.rx = .between)
    (hidle : activeRec s = none) (hfull : ∀ q, (s.reel q).state ≠ .free) :
    ∃ t, exec (.reelOpen h) s = .next t ∧ t.reels.refused = satAdd 65535 s.reels.refused 1 ∧
      (∀ q, (t.reel q).state = (s.reel q).state ∧ (t.reel q).header = (s.reel q).header) ∧
      ((s.store.list.filter isControl).length < 16 → t.store.list = s.store.list ++ [.reelOpen (clampHeader h)]) ∧
      (∀ k, sameFrame (s.slot k) (t.slot k) ∧
        ((s.slot k).state ≠ .free → (s.slot k).link = .unsettled → (t.slot k).link = .none)) ∧
      t.reg = s.reg ∧ t.defect = s.defect ∧ t.shelf = s.shelf ∧
      sameTransport s t ∧ t.reels.last = s.reels.last ∧ t.reels.waiting = s.reels.waiting ∧
      t.svc.queue = s.svc.queue ∧ sameTables s t ∧ sameChannel s t := by
  have hfixed : fixedOf (checkHead (appendControl (.reelOpen (clampHeader h))
    (takeReelOpen (clampHeader h) (linksEnded s)))) = fixedOf s := by simp
  have htake := takeReelOpen_refused_idle (s := linksEnded s) (clampHeader h) (by simpa using hidle) (by simpa using hfull)
  obtain ⟨hroom, -⟩ := controlled_list (s := s) (.reelOpen (clampHeader h)) (u := takeReelOpen (clampHeader h) (linksEnded s))
    (by simp)
  have hreel : ∀ q, (takeReelOpen (clampHeader h) (linksEnded s)).reel q = s.reel q := reel_of_recs (by rw [htake]; rfl)
  refine ⟨_, exec_reelOpen h hn hrx, by simp [htake], fun q => ?_, fun hl => (hroom hl).1,
    fun k => controlled_slot _ (by simp) k, by simp [htake], by simp [htake], by simp [htake],
    sameTransport_settle s (by simp [htake]), by simp [htake], by simp [htake], by simp [htake],
    settle_tables s hfixed, settle_channel s hfixed⟩
  obtain ⟨c, hc, -⟩ := checkHead_record (r := q) (x := s.reel q)
    (u := appendControl (.reelOpen (clampHeader h)) (takeReelOpen (clampHeader h) (linksEnded s)))
    (by rw [appendControl_reel, hreel])
  rw [settle_reel, hc]
  exact ⟨rfl, rfl⟩

end Sys2Proof.Machine
end

section
/-! PROOFS. A REEL_OPEN that finds a reel ACTIVE ends that reel first (R25, R26, R28, R30, R77). -/
namespace Sys2Proof.Machine

-- One thread a theorem is too many for the joined text under its memory limit.
set_option Elab.async false

/-! ## Opened or refused -/

section
variable (h : ReelHeader) (ended keepFailed : Bool) {w : State}

/-- A record that is not FREE is opened over by none (R23). -/
theorem openOrRefuse_reel {q : Fin 2} (hq : (w.reel q).state ≠ .free) :
    (openOrRefuse h ended keepFailed w).reel q = w.reel q := by
  obtain ⟨r, hr, e⟩ | ⟨-, e⟩ := openOrRefuse_cases h ended keepFailed w <;> rw [e]
  · have hqr : q ≠ r := fun hqr => hq (by rw [hqr]; exact free_of_freeRec hr)
    rw [openReel_reel, if_neg hqr]
  · rfl

@[simp] theorem openOrRefuse_reports : (openOrRefuse h ended keepFailed w).reels.last = w.reels.last ∧
    (openOrRefuse h ended keepFailed w).reels.waiting = w.reels.waiting ∧
    (openOrRefuse h ended keepFailed w).svc.queue = w.svc.queue := by
  obtain ⟨r, hr, e⟩ | ⟨-, e⟩ := openOrRefuse_cases h ended keepFailed w <;> rw [e] <;> exact ⟨rfl, rfl, rfl⟩

theorem openOrRefuse_defect {d : DefectUnit} (hw : w.defect = { d with tracks := [], tearMem := none }) :
    (openOrRefuse h ended keepFailed w).defect = { d with tracks := [], tearMem := none } := by
  obtain ⟨r, hr, e⟩ | ⟨-, e⟩ := openOrRefuse_cases h ended keepFailed w <;> rw [e]
  · rw [openReel_defect, hw]
  · exact hw

end

/-- A REEL_OPEN refused after the reel before it has ended leaves transport control at the ceiling (R26, R86). -/
theorem refused_units (s : State) {w : State} (h : ReelHeader) (keepFailed : Bool) (e : Entry) (hr : freeRec w = none) :
    (settle s (checkHead (appendControl e (openOrRefuse h true keepFailed w)))).reels.refused =
      satAdd 65535 w.reels.refused 1 ∧
    (settle s (checkHead (appendControl e (openOrRefuse h true keepFailed w)))).xport.cls = w.xport.ceiling := by
  rw [openOrRefuse_refuses h _ _ hr]
  simp [transportIdle]

/-! ## The reel before has frames in the store -/

/-- The reel before it stays DRAINING: the other record opens, or the reel is refused (R25, R26, R28). -/
theorem reelOpen_drains {s : State} {r q : Fin 2} (h : RawHeader) (hn : s.npor = true) (hrx : s.link.rx = .between)
    (hr : activeRec s = some r) (hq : q ≠ r) (hz : 0 < storeCount s r) :
    ∃ t, exec (.reelOpen h) s = .next t ∧ (t.reel r).state = .draining ∧ (t.reel r).closeMissing = true ∧
      (t.reel r).header = (s.reel r).header ∧
      ((s.reel q).state = .free → noFrameOf s q → (t.reel q).state = .active .acquiring ∧
        (t.reel q).header = clampHeader h ∧ (t.reel q).counters = zeroCounters ∧
        t.reels.refused = s.reels.refused ∧ t.xport.cmdStep = (clampHeader h).step ∧
        t.xport.cls = (if rank s.xport.ceiling ≤ 2 then .s2 else s.xport.ceiling)) ∧
      ((s.reel q).state ≠ .free → t.reels.refused = satAdd 65535 s.reels.refused 1 ∧
        (t.reel q).state = (s.reel q).state ∧ t.xport.cls = s.xport.ceiling) ∧
      t.defect = { s.defect with tracks := [], tearMem := none } ∧ t.shelf = s.shelf ∧ t.svc.queue = s.svc.queue ∧
      (∀ k, sameFrame (s.slot k) (t.slot k) ∧
        ((s.slot k).state ≠ .free → (s.slot k).link = .unsettled → (t.slot k).link = .none)) ∧
      sameTables s t ∧ sameChannel s t := by
  obtain ⟨w, hw⟩ : ∃ w, w = reelDrained r true (linksEnded s) := ⟨_, rfl⟩
  have hreel : ∀ p, w.reel p = if p = r then drainedRecord true s r else s.reel p := fun p => by
    rw [hw]
    exact reelDrained_reel true (s := linksEnded s) (isActive_of_activeRec hr) p
  have hwr : w.reel r = drainedRecord true s r := (hreel r).trans (if_pos rfl)
  have hwq : w.reel q = s.reel q := (hreel q).trans (if_neg hq)
  have hstore : w.store = (linksEnded s).store := by simp [hw]
  have hdraining : (w.reel r).state ≠ .free := by rw [hwr]; simp [drainedRecord]
  have hfree := freeRec_of_occupied hq hdraining
  have htake : takeReelOpen (clampHeader h) (linksEnded s) =
      openOrRefuse (clampHeader h) true (closeTestFails s r) w := by
    rw [takeReelOpen_active (r := r) _ (by simpa using hr), closeReel_drains true (by simpa using hz), ← hw]
    simp
  have hfixed : fixedOf (checkHead (appendControl (.reelOpen (clampHeader h))
    (takeReelOpen (clampHeader h) (linksEnded s)))) = fixedOf s := by simp
  have hexec := exec_reelOpen h hn hrx
  rw [htake] at hexec hfixed
  obtain ⟨c, hc, -⟩ := checkHead_record (r := r) (x := drainedRecord true s r)
    (u := appendControl (.reelOpen (clampHeader h)) (openOrRefuse (clampHeader h) true (closeTestFails s r) w))
    (by rw [appendControl_reel, openOrRefuse_reel _ _ _ hdraining, hwr])
  obtain ⟨hheader, -⟩ := drainedRecord_keeps (s := s) (r := r) true
  refine ⟨_, hexec, ?_⟩
  rw [settle_reel _ _ r, hc]
  refine ⟨rfl, by simp [drainedRecord], hheader, fun hqf hno => ?_, fun hqf => ?_, ?_, by simp [hw], by simp [hw],
    fun k => controlled_slot _ (by simp [hstore]) k, settle_tables s hfixed, settle_channel s hfixed⟩
  · rw [hwq, if_pos hqf] at hfree
    rw [openOrRefuse_opens _ _ _ hfree]
    obtain ⟨hrefused, hstep, hcls, -⟩ := opened_units s (o := q) (w := w) (clampHeader h) (closeTestFails s r)
      (.reelOpen (clampHeader h))
    rw [opened_record _ _ _ hstore hno, hrefused, hstep, hcls]
    simp [openedRecord, freeRecord, hw]
  · rw [hwq, if_neg hqf] at hfree
    obtain ⟨hrefused, hcls⟩ := refused_units s (clampHeader h) (closeTestFails s r) (.reelOpen (clampHeader h)) hfree
    rw [hrefused, hcls, controlled_state, openOrRefuse_reel _ _ _ (by rwa [hwq]), hwq]
    simp [hw]
  · have := openOrRefuse_defect (clampHeader h) true (closeTestFails s r) (w := w) (d := s.defect) (by simp [hw])
    simpa using this

/-! ## The reel before has none -/

/-- The ACTIVE reel's end with no frame in the store, whichever way its notice goes (R28, R29). -/
theorem reelEnded_blocks {s w : State} {r : Fin 2} (ha : (s.reel r).isActive = true) (hz : storeCount s r = 0)
    (hw : w = closeReel r true (linksEnded s)) :
    w.store = (linksEnded s).store ∧ w.defect = { s.defect with tracks := [], tearMem := none } ∧
    w.shelf = (dispose s.shelf (drainedRecord true s r)).2 ∧ w.xport.ceiling = s.xport.ceiling ∧
    (noticeFree s = true → s.reels.waiting = [] →
      w.reels.last = { (dispose s.shelf (drainedRecord true s r)).1 with state := .disposing } ∧ w.reels.waiting = [] ∧
      w.reels.refused = s.reels.refused ∧ w.svc.queue = s.svc.queue ++ [⟨true, noticeWords s.link.lane w.reels.last⟩] ∧
      w.svc.causes.acqFailed = (s.svc.causes.acqFailed || closeTestFails s r) ∧
      (w.reel r).state = .free ∧ ∀ q, q ≠ r → w.reel q = s.reel q) ∧
    (noticeFree s = false → w.reels.last = s.reels.last ∧ w.reels.waiting = s.reels.waiting ++ [r] ∧
      w.reels.refused = s.reels.refused ∧ w.svc.queue = s.svc.queue ∧
      w.svc.causes.acqFailed = (s.svc.causes.acqFailed || closeTestFails s r) ∧
      (w.reel r).state = .disposing ∧ ∀ q, q ≠ r → w.reel q = s.reel q) := by
  have hx : ∀ q, (reelDrained r true (linksEnded s)).reel q = if q = r then drainedRecord true s r else s.reel q :=
    reelDrained_reel true (s := linksEnded s) ha
  have hnotice : noticeFree (reelDrained r true (linksEnded s)) = noticeFree s := reelDrained_noticeFree true r
  rw [closeReel_disposes (s := linksEnded s) true ha (by simpa using hz)] at hw
  subst hw
  refine ⟨by simp, by simp, by simp [hx], by rw [disposeReel_eq]; simp [enterWaiting_xport], fun hfree hwait => ?_, fun hfull => ?_⟩
  · obtain ⟨hlast, hwaiting, hrefused, hsvc, hreel⟩ := disposeReel_notified (r := r) (s := reelDrained r true (linksEnded s))
      (d := { (dispose s.shelf (drainedRecord true s r)).1 with state := .disposing }) (by rw [hx, if_pos rfl]; simp)
      (hnotice.trans hfree) (by simp [hwait])
    refine ⟨hlast, hwaiting, by simpa using hrefused, by simp [hsvc, hlast], by simp [hsvc], ?_, fun q hq => ?_⟩
    · rw [hreel, if_pos rfl]
    · rw [hreel, if_neg hq, hx, if_neg hq]
  · rw [disposeReel_waits (hnotice.trans hfull)]
    refine ⟨by simp, by simp, by simp, by simp, by simp, by simp, fun q hq => ?_⟩
    rw [enterWaiting_reel, if_neg hq, hx, if_neg hq]

/-- A reel before it with an empty store is disposed at once; the new reel opens in the lowest-numbered record that is then FREE,
or is refused (R23, R25, R26, R28, R30, R77). -/
theorem reelOpen_disposes {s : State} {r q : Fin 2} (h : RawHeader) (hn : s.npor = true) (hrx : s.link.rx = .between)
    (hr : activeRec s = some r) (hq : q ≠ r) (hz : storeCount s r = 0) :
    ∃ t x, exec (.reelOpen h) s = .next t ∧ x.state = .draining ∧ x.closeMissing = true ∧
      x.header = (s.reel r).header ∧ x.maxGain = (s.reel r).maxGain ∧ x.peakShrinkage = (s.reel r).peakShrinkage ∧
      x.counters = { (s.reel r).counters with
        scratches := credit32 (s.reel r).counters.scratches (confirmedCount s.defect.tracks) } ∧
      (collecting (s.reel r) = false → x.reelShrinkage = (s.reel r).reelShrinkage ∧
        x.acqOutcome = (s.reel r).acqOutcome) ∧
      t.shelf = (dispose s.shelf x).2 ∧ t.defect = { s.defect with tracks := [], tearMem := none } ∧
      (noticeFree s = true → s.reels.waiting = [] → ∃ o, o = (if q < r ∧ (s.reel q).state = .free then q else r) ∧
        t.reels.last = { (dispose s.shelf x).1 with state := .disposing } ∧ t.reels.waiting = [] ∧
        t.svc.queue = s.svc.queue ++ [⟨true, noticeWords s.link.lane t.reels.last⟩] ∧
        (t.reel o).state = .active .acquiring ∧ (t.reel o).header = clampHeader h ∧
        (noFrameOf s o → (t.reel o).counters = zeroCounters) ∧ (t.reel o).closeMissing = false ∧
        (o = q → (t.reel r).state = .free) ∧ (o = r → (t.reel q).state = (s.reel q).state) ∧
        t.reels.refused = s.reels.refused ∧ t.xport.cmdStep = (clampHeader h).step ∧
        t.xport.cls = (if rank s.xport.ceiling ≤ 2 then .s2 else s.xport.ceiling) ∧
        (t.svc.causes.acqFailed = true ↔ closeTestFails s r = true)) ∧
      (noticeFree s = false → (t.reel r).state = .disposing ∧ t.reels.waiting = s.reels.waiting ++ [r] ∧
        t.reels.last = s.reels.last ∧ t.svc.queue = s.svc.queue ∧
        ((s.reel q).state = .free → (t.reel q).state = .active .acquiring ∧ (t.reel q).header = clampHeader h ∧
          t.reels.refused = s.reels.refused ∧ t.xport.cmdStep = (clampHeader h).step ∧
          (t.svc.causes.acqFailed = true ↔ closeTestFails s r = true)) ∧
        ((s.reel q).state ≠ .free → t.reels.refused = satAdd 65535 s.reels.refused 1 ∧
          (t.reel q).state = (s.reel q).state ∧ t.xport.cls = s.xport.ceiling)) ∧
      ((s.store.list.filter isControl).length < 16 → t.store.list = s.store.list ++ [.reelOpen (clampHeader h)]) ∧
      (∀ k, sameFrame (s.slot k) (t.slot k) ∧
        ((s.slot k).state ≠ .free → (s.slot k).link = .unsettled → (t.slot k).link = .none)) ∧
      sameTables s t ∧ sameChannel s t := by
  obtain ⟨w, hw⟩ : ∃ w, w = closeReel r true (linksEnded s) := ⟨_, rfl⟩
  have htake : takeReelOpen (clampHeader h) (linksEnded s) =
      openOrRefuse (clampHeader h) true (closeTestFails s r) w := by
    rw [takeReelOpen_active (r := r) _ (by simpa using hr), ← hw]
    simp
  have hfixed : fixedOf (checkHead (appendControl (.reelOpen (clampHeader h))
    (takeReelOpen (clampHeader h) (linksEnded s)))) = fixedOf s := by simp
  have hexec := exec_reelOpen h hn hrx
  rw [htake] at hexec hfixed
  obtain ⟨hstore, hdefect, hshelf, hceiling, hnotified, hwaits⟩ := reelEnded_blocks (isActive_of_activeRec hr) hz hw
  obtain ⟨hheader, hgain, hpeak, hidle⟩ := drainedRecord_keeps (s := s) (r := r) true
  obtain ⟨hlist, -⟩ := controlled_list (s := s) (.reelOpen (clampHeader h))
    (u := openOrRefuse (clampHeader h) true (closeTestFails s r) w) (by simp [hstore])
  have hdefect' := openOrRefuse_defect (clampHeader h) true (closeTestFails s r) hdefect
  clear htake hw
  refine ⟨_, drainedRecord true s r, hexec, rfl, by simp [drainedRecord], hheader, hgain, hpeak, rfl, hidle, by simp [hshelf],
    by simpa using hdefect', fun hfree hwait => ?_, fun hfull => ?_, fun hl => (hlist hl).1,
    fun k => controlled_slot _ (by simp [hstore]) k, settle_tables s hfixed, settle_channel s hfixed⟩
  · obtain ⟨hlast, hwaiting, hrefused, hqueue, hacq, hwr, hwq⟩ := hnotified hfree hwait
    have ho := freeRec_of_free hq hwr
    rw [hwq q hq] at ho
    refine ⟨_, rfl, by simpa using hlast, by simpa using hwaiting, by simpa using hqueue, ?_⟩
    generalize (if q < r ∧ (s.reel q).state = .free then q else r) = o at ho ⊢
    rw [openOrRefuse_opens _ _ _ ho]
    obtain ⟨hopen, hhead, hmissing⟩ := opened_fields s (o := o) (w := w) (clampHeader h) (closeTestFails s r)
      (.reelOpen (clampHeader h))
    obtain ⟨hrefused', hstep, hcls, hacq'⟩ := opened_units s (o := o) (w := w) (clampHeader h) (closeTestFails s r)
      (.reelOpen (clampHeader h))
    refine ⟨hopen, hhead, fun hno => ?_, hmissing, fun e => ?_, fun e => ?_, hrefused'.trans hrefused, hstep,
      by rw [hcls, hceiling], by rw [hacq', hacq]; cases closeTestFails s r <;> simp⟩
    · rw [opened_record _ _ _ hstore hno]
      rfl
    · rw [opened_other _ _ _ (by rw [e]; exact hq.symm), hwr]
    · rw [opened_other _ _ _ (by rw [e]; exact hq), hwq q hq]
  · obtain ⟨hlast, hwaiting, hrefused, hqueue, hacq, hwr, hwq⟩ := hwaits hfull
    have hoccupied : (w.reel r).state ≠ .free := by rw [hwr]; decide
    have ho := freeRec_of_occupied hq hoccupied
    rw [hwq q hq] at ho
    refine ⟨?_, by simpa using hwaiting, by simpa using hlast, by simpa using hqueue, fun hqf => ?_, fun hqf => ?_⟩
    · rw [controlled_state, openOrRefuse_reel _ _ _ hoccupied, hwr]
    · rw [if_pos hqf] at ho
      rw [openOrRefuse_opens _ _ _ ho]
      obtain ⟨hopen, hhead, -⟩ := opened_fields s (o := q) (w := w) (clampHeader h) (closeTestFails s r)
        (.reelOpen (clampHeader h))
      obtain ⟨hrefused', hstep, -, hacq'⟩ := opened_units s (o := q) (w := w) (clampHeader h) (closeTestFails s r)
        (.reelOpen (clampHeader h))
      exact ⟨hopen, hhead, hrefused'.trans hrefused, hstep, by rw [hacq', hacq]; cases closeTestFails s r <;> simp⟩
    · rw [if_neg hqf] at ho
      obtain ⟨hrefused', hcls⟩ := refused_units s (clampHeader h) (closeTestFails s r) (.reelOpen (clampHeader h)) ho
      refine ⟨hrefused'.trans (by rw [hrefused]), ?_, hcls.trans hceiling⟩
      rw [controlled_state, openOrRefuse_reel _ _ _ (by rwa [hwq q hq]), hwq q hq]

/-- Settles O20. -/
theorem reelOpenIsRefusedOrEndsTheReelBefore : Obligations.ReelOpenIsRefusedOrEndsTheReelBefore := by
  unfold Obligations.ReelOpenIsRefusedOrEndsTheReelBefore
  exact ⟨fun s h hn hrx hidle hfull => reelOpen_refused h hn hrx hidle hfull,
    fun s h r q hn hrx hr hq hz => reelOpen_drains h hn hrx hr hq hz,
    fun s h r q hn hrx hr hq hz => reelOpen_disposes h hn hrx hr hq hz, fun s r => closeTestFails_iff r s⟩

end Sys2Proof.Machine
end

section
/-! PROOFS. The open frame discarded (R9, R12 to R14, R44, R117, R118). -/
namespace Sys2Proof.Machine

-- One thread a theorem is too many for the joined text under its memory limit.
set_option Elab.async false

/-! ## The LINK_FAULT discard of an ACTIVE reel's frame -/

section
variable {s : State} {r : Fin 2} (k : Fin 4)

/-- An ACTIVE reel is judged by no discard (R28). -/
theorem linkFaultDiscard_active (ha : (s.reel r).isActive = true) :
    linkFaultDiscard k r s = checkHead (regDiscard r (frameDiscarded k r s)) := by
  rw [linkFaultDiscard_eq]
  refine congrArg checkHead (if_neg fun hc => ?_)
  have hstate : ((frameDiscarded k r s).reel r).state = (s.reel r).state := by
    rw [frameDiscarded_reel]
    split <;> rfl
  rw [regDiscard_reel, hstate] at hc
  simp [ReelRecord.isActive, hc.1] at ha

/-- The slot of a discarded frame is FREE and its defect state cleared (R14, R118). -/
theorem linkFaultDiscard_slot (ha : (s.reel r).isActive = true) : (linkFaultDiscard k r s).slot k =
    { s.slot k with state := .free, defectOverflow := false, regions := [], regionsLost := 0 } := by
  rw [linkFaultDiscard_active k ha, checkHead_slot_of_not_closed] <;> rw [regDiscard_slot, frameDiscarded_slot, if_pos rfl]
  simp

/-- A link that waited for the discarded frame is NONE (R44). -/
theorem linkFaultDiscard_pending (ha : (s.reel r).isActive = true) {j : Fin 4} (hj : j ≠ k)
    (hl : (s.slot j).link = .pending k) (hs : (s.slot j).state ≠ .free) : ((linkFaultDiscard k r s).slot j).link = .none := by
  rw [linkFaultDiscard_active k ha, checkHead_link, regDiscard_slot, frameDiscarded_slot, if_neg hj, if_pos ⟨hs, hl⟩]

/-- The discard of an ACTIVE reel's frame credits that reel's record (R14). -/
theorem linkFaultDiscard_record (ha : (s.reel r).isActive = true) (q : Fin 2) :
    ∃ c, (linkFaultDiscard k r s).reel q = { s.reel q with counters := c } ∧
      c.discarded = (if q = r then credit32 (s.reel q).counters.discarded 1 else (s.reel q).counters.discarded) ∧
      c.opened = (s.reel q).counters.opened ∧ c.emitted = (s.reel q).counters.emitted ∧
      c.dropped = (s.reel q).counters.dropped := by
  have hne : (s.reel r).state ≠ .free := fun hfree => by simp [ReelRecord.isActive, hfree] at ha
  obtain ⟨a, b, c, d, e⟩ := checkHead_counts (regDiscard r (frameDiscarded k r s)) q
  rw [regDiscard_reel, frameDiscarded_reel] at e
  rw [linkFaultDiscard_active k ha]
  by_cases hq : q = r
  · rw [if_pos ⟨hq, hne⟩] at e
    exact ⟨_, e, (if_pos hq).symm, rfl, rfl, rfl⟩
  · rw [if_neg fun hc => hq hc.1] at e
    exact ⟨_, e, (if_neg hq).symm, rfl, rfl, rfl⟩

/-- What a discard of an ACTIVE reel's frame leaves, and what it drops (R14, R68, R81). -/
theorem linkFaultDiscard_units (ha : (s.reel r).isActive = true) :
    (linkFaultDiscard k r s).reg = { s.reg with hole := emptyHole, ref := none, goodDx := 0, goodDy := 0 } ∧
    (linkFaultDiscard k r s).store.list = s.store.list.filter (fun e => decide (e ≠ .frame k)) ∧
    (linkFaultDiscard k r s).svc = { s.svc with causes := { s.svc.causes with linkFault := true } } ∧
    (linkFaultDiscard k r s).defect = s.defect ∧ (linkFaultDiscard k r s).grade.fade = s.grade.fade ∧
    (linkFaultDiscard k r s).shelf = s.shelf ∧ (linkFaultDiscard k r s).xport = s.xport ∧
    sameReports s (linkFaultDiscard k r s) := by
  have hactive : ((frameDiscarded k r s).reel r).isActive = true := by
    rw [frameDiscarded_reel]
    split <;> exact ha
  rw [linkFaultDiscard_active k ha]
  refine ⟨?_, by simp [regDiscard], by simp [regDiscard], by simp [regDiscard], by simp [regDiscard], by simp [regDiscard],
    by simp [regDiscard], by simp [sameReports, regDiscard]⟩
  simp [regDiscard, hactive, dropReference]

end

theorem not_mem_filter_frame (k : Fin 4) (l : List Entry) : Entry.frame k ∉ l.filter (fun e => decide (e ≠ .frame k)) := by
  simp

/-- Settles O9. -/
theorem wrongGeometryDiscardsTheFrame : Obligations.WrongGeometryDiscardsTheFrame := by
  unfold Obligations.WrongGeometryDiscardsTheFrame
  refine ⟨fun s k r px hn hrx ht ha hbad => ?_, fun s k r hn hrx ht ha hbad => ?_⟩
  · have hno : ¬(px.length = (s.reel r).header.pixels ∧ (s.slot k).lineCount < (s.reel r).header.lines) := by
      rintro ⟨h1, h2⟩
      obtain h | h := hbad
      · exact h h1
      · omega
    have htake : takeLine px s = setRx .ignoring (linkFaultDiscard k r s) := by
      unfold takeLine
      simp only [hrx, ht, if_neg hno]
    have hfixed := fixedOf_takeLine s px
    obtain ⟨hreg, hlist, hsvc, -, hfade, hshelf, hxport, hreports⟩ := linkFaultDiscard_units k ha
    obtain ⟨c, hreel, hdiscarded, hopened, hemitted, hdropped⟩ := linkFaultDiscard_record k ha r
    have hexec : exec (.line px) s = .next (settle s (setRx .ignoring (linkFaultDiscard k r s))) := by
      rw [← htake]
      exact exec_settles rfl hn
    rw [htake] at hfixed
    refine ⟨_, hexec, ?_⟩
    rw [settle_slot, setRx_slot, linkFaultDiscard_slot k ha, settle_reel, setRx_reel, hreel]
    refine ⟨rfl, rfl, rfl, rfl, rfl, by simp, by simp [hlist], by simp [hsvc], hdiscarded.trans (if_pos rfl), hopened, rfl,
      by simpa using hreg, rfl, hemitted, hdropped, by simp, by simpa using hfade, by simpa using hshelf,
      sameTransport_settle s (by simpa using hxport), sameReports_settle s hreports, fun j hj hl hs => ?_,
      settle_tables s hfixed, settle_channel s hfixed⟩
    rw [settle_slot, setRx_slot, linkFaultDiscard_pending k ha hj hl hs]
  · have htake : takeFrameClose s = setRx .between (linkFaultDiscard k r s) := by
      unfold takeFrameClose
      simp only [hrx, ht, if_neg hbad]
    have hfixed := fixedOf_takeFrameClose s
    obtain ⟨hreg, hlist, hsvc, -, hfade, hshelf, hxport, hreports⟩ := linkFaultDiscard_units k ha
    obtain ⟨c, hreel, hdiscarded, -⟩ := linkFaultDiscard_record k ha r
    have hexec : exec .frameClose s = .next (settle s (setRx .between (linkFaultDiscard k r s))) := by
      rw [← htake]
      exact exec_settles rfl hn
    rw [htake] at hfixed
    refine ⟨_, hexec, by simp, ?_⟩
    rw [settle_slot, setRx_slot, linkFaultDiscard_slot k ha, settle_reel, setRx_reel, hreel]
    exact ⟨rfl, rfl, rfl, rfl, by simp [hlist], by simp [hsvc], hdiscarded.trans (if_pos rfl), by simpa using hreg,
      by simp, rfl, by simpa using hfade, by simpa using hshelf,
      sameTransport_settle s (by simpa using hxport), sameReports_settle s hreports, settle_tables s hfixed,
      settle_channel s hfixed⟩

end Sys2Proof.Machine
end

section
/-! PROOFS. An open frame cut short by a FRAME_OPEN or a control cell (R13, R14). -/
namespace Sys2Proof.Machine

-- One thread a theorem is too many for the joined text under its memory limit.
set_option Elab.async false

/-! ## The frame cut short -/

/-- The frame of slot `k` has left the store and no frame is open (R13). -/
structure FrameCut (k : Fin 4) (s u : State) : Prop where
  rx : u.link.rx = .between
  freed : (u.slot k).state = .free
  others : ∀ j, j ≠ k → ((u.slot j).state = .free ↔ (s.slot j).state = .free)
  list : Entry.frame k ∉ u.store.list
  fault : u.svc.causes.linkFault = true

theorem checkHead_free_iff (s : State) (j : Fin 4) : ((checkHead s).slot j).state = .free ↔ (s.slot j).state = .free := by
  refine ⟨fun h => by_contra fun hn => checkHead_not_free hn h, fun h => ?_⟩
  rw [checkHead_slot_of_not_closed (by rw [h]; decide), h]

theorem cutShort_treated {s : State} {k : Fin 4} {r : Fin 2} (hrx : s.link.rx = .filling k) (ht : (s.slot k).tag = some r) :
    cutShort s = setRx .between (linkFaultDiscard k r s) := by
  unfold cutShort
  simp only [hrx, ht]

theorem cutShort_untreated {s : State} {k : Fin 4} (hrx : s.link.rx = .filling k) (ht : (s.slot k).tag = none) :
    cutShort s = setRx .between (checkHead (raiseCause .linkFault (discardFrame k s))) := by
  unfold cutShort
  simp only [hrx, ht]

theorem frameCut_treated {s : State} {k : Fin 4} {r : Fin 2} (hrx : s.link.rx = .filling k) (ht : (s.slot k).tag = some r)
    (ha : (s.reel r).isActive = true) : FrameCut k s (cutShort s) := by
  obtain ⟨-, hlist, hsvc, -⟩ := linkFaultDiscard_units k ha
  rw [cutShort_treated hrx ht]
  refine ⟨rfl, ?_, fun j hj => ?_, by simp [hlist], by simp [hsvc]⟩
  · rw [setRx_slot, linkFaultDiscard_slot k ha]
  · rw [setRx_slot, linkFaultDiscard_active k ha, checkHead_free_iff, regDiscard_slot, frameDiscarded_slot, if_neg hj]
    split <;> rfl

theorem frameCut_untreated {s : State} {k : Fin 4} (hrx : s.link.rx = .filling k) (ht : (s.slot k).tag = none) :
    FrameCut k s (cutShort s) := by
  rw [cutShort_untreated hrx ht]
  refine ⟨rfl, ?_, fun j hj => ?_, by simp, by simp [raiseCause, latchCause]⟩
  · rw [setRx_slot, checkHead_free_iff, raiseCause_slot, discardFrame_slot, if_pos rfl]
  · rw [setRx_slot, checkHead_free_iff, raiseCause_slot, discardFrame_slot, if_neg hj]
    split <;> rfl

/-- An untreated frame cut short credits no record and moves no unit (R13). -/
theorem cutShort_untreated_units {s : State} {k : Fin 4} (hrx : s.link.rx = .filling k) (ht : (s.slot k).tag = none) :
    (∀ q, ((cutShort s).reel q).counters.discarded = (s.reel q).counters.discarded ∧
      ((cutShort s).reel q).counters.dropped = (s.reel q).counters.dropped) ∧
    (cutShort s).reg = s.reg ∧ (cutShort s).defect = s.defect ∧ (cutShort s).grade.fade = s.grade.fade := by
  rw [cutShort_untreated hrx ht]
  refine ⟨fun q => ?_, by simp, by simp, by simp⟩
  obtain ⟨a, b, c, d, e⟩ := checkHead_counts (raiseCause .linkFault (discardFrame k s)) q
  rw [setRx_reel, e]
  exact ⟨rfl, rfl⟩

/-- A treated frame cut short is credited to its reel, its reference dropped with it (R14, R68). -/
theorem cutShort_treated_units {s : State} {k : Fin 4} {r : Fin 2} (hrx : s.link.rx = .filling k)
    (ht : (s.slot k).tag = some r) (ha : (s.reel r).isActive = true) :
    ((cutShort s).reel r).counters.discarded = credit32 (s.reel r).counters.discarded 1 ∧
    (∀ q, ((cutShort s).reel q).state = (s.reel q).state) ∧
    (cutShort s).reg.ref = none ∧ (cutShort s).reg.count = s.reg.count ∧ (cutShort s).defect = s.defect ∧
    (cutShort s).grade.fade = s.grade.fade := by
  obtain ⟨hreg, -, -, hdefect, hfade, -⟩ := linkFaultDiscard_units k ha
  obtain ⟨c, hreel, hdiscarded, -⟩ := linkFaultDiscard_record k ha r
  rw [cutShort_treated hrx ht]
  refine ⟨?_, fun q => ?_, by simp [hreg], by simp [hreg], by simp, by simp [hfade]⟩
  · rw [setRx_reel, hreel]
    exact hdiscarded.trans (if_pos rfl)
  · obtain ⟨c, hreel, -⟩ := linkFaultDiscard_record k ha q
    rw [setRx_reel, hreel]

/-! ## A FRAME_OPEN after it -/

theorem not_free_of_lt_freeSlotIdx {s : State} {i j : Fin 4} (h : freeSlotIdx s = some j) (hi : i < j) :
    (s.slot i).state ≠ .free := by
  obtain ⟨-, as, bs, hsplit, has⟩ := List.find?_eq_some_iff_append.mp h
  have hsorted : slotIdx.Pairwise (· < ·) := by decide
  have hmem : i ∈ as ++ j :: bs := hsplit ▸ mem_slotIdx i
  rw [hsplit, List.pairwise_append, List.pairwise_cons] at hsorted
  obtain hin | hin := List.mem_append.mp hmem
  · simpa using has i hin
  · obtain rfl | hbs := List.mem_cons.mp hin
    · exact absurd hi (lt_irrefl _)
    · exact absurd (hsorted.2.1.1 i hbs) (lt_asymm hi)

/-- The slot of a frame cut short counts as FREE for the FRAME_OPEN that cut it (R41). -/
theorem FrameCut.granted {k : Fin 4} {s u : State} (h : FrameCut k s u) :
    (freeSlotIdx s = none → freeSlotIdx u = some k) ∧
    ∀ j, freeSlotIdx s = some j → freeSlotIdx u = some (min j k) := by
  refine ⟨fun hs => freeSlotIdx_eq_some h.freed fun i hi => ?_, fun j hj => freeSlotIdx_eq_some ?_ fun i hi => ?_⟩
  · exact fun hfree => freeSlotIdx_eq_none.mp hs i ((h.others i hi.ne).mp hfree)
  · obtain hjk | hjk := le_or_gt k j
    · rw [min_eq_right hjk]
      exact h.freed
    · rw [min_eq_left hjk.le]
      exact (h.others j hjk.ne).mpr (free_of_freeSlotIdx hj)
  · obtain ⟨hij, hik⟩ := lt_min_iff.mp hi
    exact fun hfree => not_free_of_lt_freeSlotIdx hj hij ((h.others i hik.ne).mp hfree)

theorem credit32_zero (n : Nat) : credit32 n 0 = n := by
  unfold credit32 satAdd
  split
  · rfl
  · omega

theorem exec_frameOpen_cut (s : State) (n : Word) (step : Byte) (cls : SpeedClass) (hn : s.npor = true) :
    exec (.frameOpen n step cls) s = .next (settle s (checkHead (takeFrameOpen n (clampStep step) cls (cutShort s)))) :=
  exec_settles (work := fun u => checkHead (takeFrameOpen n (clampStep step) cls (cutShort u))) rfl hn

/-- A FRAME_OPEN takes the slot of the frame it cut short, or a lower one that was FREE (R13, R41). -/
theorem FrameCut.frameOpen {k : Fin 4} {s u : State} (h : FrameCut k s u) (n : Word) (step : Nat) (cls : SpeedClass) :
    (settle s (checkHead (takeFrameOpen n step cls u))).svc.causes.linkFault = true ∧
    (freeSlotIdx s = none → (settle s (checkHead (takeFrameOpen n step cls u))).link.rx = .filling k) ∧
    (∀ j, freeSlotIdx s = some j → (settle s (checkHead (takeFrameOpen n step cls u))).link.rx = .filling (min j k)) ∧
    ((settle s (checkHead (takeFrameOpen n step cls u))).link.rx ≠ .filling k →
      ((settle s (checkHead (takeFrameOpen n step cls u))).slot k).state = .free ∧
      Entry.frame k ∉ (settle s (checkHead (takeFrameOpen n step cls u))).store.list) ∧
    (settle s (checkHead (takeFrameOpen n step cls u))).reg = { u.reg with hole := emptyHole } ∧
    (∀ q, ((settle s (checkHead (takeFrameOpen n step cls u))).reel q).counters.discarded = (u.reel q).counters.discarded ∧
      ((settle s (checkHead (takeFrameOpen n step cls u))).reel q).counters.dropped = (u.reel q).counters.dropped) := by
  obtain ⟨hnone, hsome⟩ := h.granted
  obtain ⟨j, hj⟩ : ∃ j, freeSlotIdx u = some j := by
    cases hs : freeSlotIdx s with
    | none => exact ⟨k, hnone hs⟩
    | some j => exact ⟨_, hsome j hs⟩
  obtain ⟨hrx, hlist, hreg, hsvc, hslot⟩ := takeFrameOpen_granted n step cls hj
  have hrx' : (settle s (checkHead (takeFrameOpen n step cls u))).link.rx = .filling j := by simp [hrx]
  refine ⟨by simp [hsvc, h.fault], fun hs => ?_, fun i hi => ?_, fun hne => ?_, by simp [hreg], fun q => ?_⟩
  · rw [hrx', Option.some.inj (hj.symm.trans (hnone hs))]
  · rw [hrx', Option.some.inj (hj.symm.trans (hsome i hi))]
  · have hjk : k ≠ j := fun e => hne (by rw [hrx', e])
    refine ⟨?_, by simp [hlist, h.list, hjk]⟩
    rw [settle_slot, checkHead_free_iff, hslot, if_neg hjk, if_neg fun hc => hc.1 h.freed]
    exact h.freed
  · obtain ⟨a, b, c, d, e⟩ := checkHead_counts (takeFrameOpen n step cls u) q
    rw [takeFrameOpen_record, hj] at e
    rw [settle_reel, e]
    dsimp only
    split
    · exact ⟨rfl, credit32_zero _⟩
    · exact ⟨rfl, rfl⟩

/-! ## A control cell after it -/

theorem exec_controlCell_cut {c : Instr} {e : Entry} {work : State → State} {s : State}
    (hc : exec c = whilePowered fun u => settle u (controlCell e work u)) (hn : s.npor = true) :
    exec c s = .next (settle s (checkHead (appendControl e (work (linksEnded (cutShort s)))))) :=
  exec_settles (work := controlCell e work) hc hn

/-- A control cell's units leave the store of a frame cut short, the receive state and LINK_FAULT (R10). -/
theorem FrameCut.controlCell {k : Fin 4} {s u v : State} {e : Entry} (h : FrameCut k s u) (he : e ≠ .frame k)
    (hslots : v.store.slots = (linksEnded u).store.slots) (hlist : v.store.list = u.store.list) (hlink : v.link = u.link)
    (hfault : v.svc.causes.linkFault = u.svc.causes.linkFault) :
    (settle s (checkHead (appendControl e v))).svc.causes.linkFault = true ∧
    (settle s (checkHead (appendControl e v))).link.rx = .between ∧
    ((settle s (checkHead (appendControl e v))).slot k).state = .free ∧
    Entry.frame k ∉ (settle s (checkHead (appendControl e v))).store.list := by
  obtain ⟨l, hl, -⟩ := linksEnded_slot u k
  refine ⟨by simp [hfault, h.fault], by simp [hlink, h.rx], ?_, ?_⟩
  · have hk : v.slot k = (linksEnded u).slot k := by
      unfold State.slot
      rw [hslots]
    rw [settle_slot, checkHead_free_iff, appendControl_slot, hk, hl]
    exact h.freed
  · obtain ⟨-, ha⟩ | ⟨-, ha⟩ := appendControl_cases e v <;> rw [ha] <;> simp [hlist, h.list, Ne.symm he]

/-- The check of the head and the control entry credit no discarded frame. -/
theorem controlled_discarded (e : Entry) (s v : State) (q : Fin 2) :
    ((settle s (checkHead (appendControl e v))).reel q).counters.discarded = (v.reel q).counters.discarded := by
  obtain ⟨a, b, c, d, h⟩ := checkHead_counts (appendControl e v) q
  rw [settle_reel, h, appendControl_reel]

theorem takeSplice_discarded (s : State) (q : Fin 2) :
    ((takeSplice s).reel q).counters.discarded = (s.reel q).counters.discarded := by
  rw [takeSplice_record]
  dsimp only
  split <;> rfl

/-- A notice leaves every record's counters (R30). -/
theorem takeNotice_counters (s : State) (q : Fin 2) : ((takeNotice s).reel q).counters = (s.reel q).counters := by
  obtain e | ⟨r, rest, -, -, -, -, -, -, hreel⟩ := takeNotice_cases s
  · rw [e]
  · rw [hreel]
    split
    · next h => rw [h]
    · rfl

theorem judgeStore_counters (r q : Fin 2) (s : State) : ((judgeStore r s).reel q).counters = (s.reel q).counters := by
  obtain ⟨-, -, e⟩ | ⟨-, e⟩ := judgeStore_cases r s <;> rw [e]
  rw [disposeReel_eq, takeNotice_counters, enterWaiting_reel]
  split
  · next h => rw [h]; exact dispose_counters _ _
  · rfl

theorem closeReel_discarded {s : State} {r : Fin 2} (implicit : Bool) (ha : (s.reel r).isActive = true) (q : Fin 2) :
    ((closeReel r implicit s).reel q).counters.discarded = (s.reel q).counters.discarded := by
  rw [closeReel_eq, judgeStore_counters, reelDrained_reel implicit ha]
  split
  · next h => rw [h]; rfl
  · rfl

theorem takeReelClose_discarded (s : State) (q : Fin 2) :
    ((takeReelClose s).reel q).counters.discarded = (s.reel q).counters.discarded := by
  cases hr : activeRec s with
  | none => rw [takeReelClose_idle hr]
  | some r =>
    obtain ⟨hreels, -⟩ := takeReelClose_blocks hr
    rw [reel_of_recs (congrArg ReelTable.recs hreels), closeReel_discarded false (isActive_of_activeRec hr)]

/-- A REEL_OPEN takes no record's discarded frames but those of the record it opens (R24). -/
theorem takeReelOpen_discarded (h : ReelHeader) (s : State) (q : Fin 2)
    (hq : ((takeReelOpen h s).reel q).state ≠ .active .acquiring) :
    ((takeReelOpen h s).reel q).counters.discarded = (s.reel q).counters.discarded := by
  have hopen : ∀ (a b : Bool) (w : State), ((openOrRefuse h a b w).reel q).state ≠ .active .acquiring →
      ((openOrRefuse h a b w).reel q).counters = (w.reel q).counters := fun a b w hw => by
    obtain ⟨o, -, e⟩ | ⟨-, e⟩ := openOrRefuse_cases h a b w <;> rw [e] at hw ⊢
    · rw [openReel_reel] at hw ⊢
      split at hw
      · exact absurd rfl hw
      · next hne => rw [if_neg hne]
    · rfl
  cases hr : activeRec s with
  | none =>
    rw [takeReelOpen_idle h hr] at hq ⊢
    rw [hopen _ _ _ hq]
  | some r =>
    rw [takeReelOpen_active h hr] at hq ⊢
    rw [hopen _ _ _ hq, closeReel_discarded true (isActive_of_activeRec hr)]

/-- A reel that has ended is DRAINING or waits, or its record is FREE and its results are the last-disposed copy (R28, R30). -/
theorem closeReel_ends {s : State} {r : Fin 2} (implicit : Bool) (ha : (s.reel r).isActive = true) :
    ((closeReel r implicit s).reel r).state = .draining ∨ ((closeReel r implicit s).reel r).state = .disposing ∨
    (((closeReel r implicit s).reel r).state = .free ∧
      (closeReel r implicit s).reels.last.counters.discarded = (s.reel r).counters.discarded) := by
  have hx : (reelDrained r implicit s).reel r = drainedRecord implicit s r := by
    rw [reelDrained_reel implicit ha, if_pos rfl]
  rw [closeReel_eq]
  obtain ⟨-, -, e⟩ | ⟨-, e⟩ := judgeStore_cases r (reelDrained r implicit s) <;> rw [e]
  · rw [disposeReel_eq]
    obtain e | ⟨p, rest, -, -, -, hlast, -, -, hreel⟩ := takeNotice_cases (enterWaiting r (reelDrained r implicit s))
    · rw [e, enterWaiting_reel, if_pos rfl]
      exact .inr (.inl rfl)
    · by_cases hp : r = p
      · subst hp
        refine .inr (.inr ⟨by rw [hreel, if_pos rfl], ?_⟩)
        rw [hlast, enterWaiting_reel, if_pos rfl, hx]
        simp [drainedRecord]
      · rw [hreel, if_neg hp, enterWaiting_reel, if_pos rfl]
        exact .inr (.inl rfl)
  · rw [hx]
    exact .inl rfl

/-- After a REEL_OPEN that ended an ACTIVE reel its discarded frames stand in its record, or in the last-disposed copy (R25). -/
theorem takeReelOpen_ends {s : State} {r : Fin 2} (h : ReelHeader) (hr : activeRec s = some r) :
    (((takeReelOpen h s).reel r).state = .draining ∨ ((takeReelOpen h s).reel r).state = .disposing →
      ((takeReelOpen h s).reel r).counters.discarded = (s.reel r).counters.discarded) ∧
    (((takeReelOpen h s).reel r).state ≠ .draining → ((takeReelOpen h s).reel r).state ≠ .disposing →
      (takeReelOpen h s).reels.last.counters.discarded = (s.reel r).counters.discarded) := by
  refine ⟨fun hs => takeReelOpen_discarded h s r fun hacq => by simp [hacq] at hs, fun hd hw => ?_⟩
  rw [takeReelOpen_active h hr] at hd hw ⊢
  obtain hs | hs | ⟨-, hlast⟩ := closeReel_ends true (isActive_of_activeRec hr)
  · rw [openOrRefuse_reel _ _ _ (by rw [hs]; decide)] at hd
    exact absurd hs hd
  · rw [openOrRefuse_reel _ _ _ (by rw [hs]; decide)] at hw
    exact absurd hs hw
  · rw [(openOrRefuse_reports _ _ _).1]
    exact hlast

/-! ## LINK_FAULT stands through a reel's end and opening -/

theorem closeReel_linkFault (r : Fin 2) (implicit : Bool) (s : State) :
    (closeReel r implicit s).svc.causes.linkFault = s.svc.causes.linkFault := by
  rw [closeReel_eq]
  obtain ⟨-, -, e⟩ | ⟨-, e⟩ := judgeStore_cases r (reelDrained r implicit s) <;> rw [e]
  · rw [disposeReel_eq]
    obtain e | ⟨p, rest, -, -, -, -, -, hsvc, -⟩ := takeNotice_cases (enterWaiting r (reelDrained r implicit s))
    · simp [e]
    · simp [hsvc]
  · simp

theorem takeReelClose_linkFault (s : State) : (takeReelClose s).svc.causes.linkFault = s.svc.causes.linkFault := by
  cases hr : activeRec s with
  | none => rw [takeReelClose_idle hr]
  | some r =>
    obtain ⟨-, hsvc, -⟩ := takeReelClose_blocks hr
    rw [hsvc, closeReel_linkFault]

theorem takeReelOpen_linkFault (h : ReelHeader) (s : State) :
    (takeReelOpen h s).svc.causes.linkFault = s.svc.causes.linkFault := by
  have hopen : ∀ (a b : Bool) (w : State), (openOrRefuse h a b w).svc.causes.linkFault = w.svc.causes.linkFault := by
    intro a b w
    obtain ⟨o, -, e⟩ | ⟨-, e⟩ := openOrRefuse_cases h a b w <;> simp [e]
  cases hr : activeRec s with
  | none => rw [takeReelOpen_idle h hr, hopen]
  | some r => rw [takeReelOpen_active h hr, hopen, closeReel_linkFault]

/-! ## The obligation -/

section
variable {s : State} {k : Fin 4}

theorem splice_cuts (h : FrameCut k s (cutShort s)) (hn : s.npor = true) :
    ∃ t, exec .splice s = .next t ∧ t.svc.causes.linkFault = true ∧ t.link.rx = .between ∧
      (t.slot k).state = .free ∧ Entry.frame k ∉ t.store.list ∧
      (∀ q, (t.reel q).counters.discarded = ((cutShort s).reel q).counters.discarded) ∧ sameChannel s t := by
  obtain ⟨hfault, hrx, hfree, hlist⟩ := h.controlCell (v := takeSplice (linksEnded (cutShort s))) (e := .splice) (by simp)
    (by simp) (by simp) (by simp) (by simp)
  exact ⟨_, exec_controlCell_cut (work := takeSplice) rfl hn, hfault, hrx, hfree, hlist,
    fun q => (controlled_discarded ..).trans (takeSplice_discarded _ q), settle_channel s (by simp)⟩

theorem reelClose_cuts (h : FrameCut k s (cutShort s)) (hn : s.npor = true) :
    ∃ t, exec .reelClose s = .next t ∧ t.svc.causes.linkFault = true ∧ t.link.rx = .between ∧
      (t.slot k).state = .free ∧ Entry.frame k ∉ t.store.list ∧
      (∀ q, (t.reel q).counters.discarded = ((cutShort s).reel q).counters.discarded) ∧ sameChannel s t := by
  obtain ⟨hfault, hrx, hfree, hlist⟩ := h.controlCell (v := takeReelClose (linksEnded (cutShort s))) (e := .reelClose) (by simp)
    (by simp) (by simp) (by simp) (takeReelClose_linkFault _)
  exact ⟨_, exec_controlCell_cut (work := takeReelClose) rfl hn, hfault, hrx, hfree, hlist,
    fun q => (controlled_discarded ..).trans (takeReelClose_discarded _ q), settle_channel s (by simp)⟩

theorem reelOpen_cuts (h : FrameCut k s (cutShort s)) (hn : s.npor = true) (header : RawHeader) :
    ∃ t, exec (.reelOpen header) s = .next t ∧ t.svc.causes.linkFault = true ∧ t.link.rx = .between ∧
      (t.slot k).state = .free ∧ Entry.frame k ∉ t.store.list ∧
      (∀ q, (t.reel q).state ≠ .active .acquiring →
        (t.reel q).counters.discarded = ((cutShort s).reel q).counters.discarded) ∧
      (∀ r, activeRec (cutShort s) = some r →
        ((t.reel r).state = .draining ∨ (t.reel r).state = .disposing →
          (t.reel r).counters.discarded = ((cutShort s).reel r).counters.discarded) ∧
        ((t.reel r).state ≠ .draining → (t.reel r).state ≠ .disposing →
          t.reels.last.counters.discarded = ((cutShort s).reel r).counters.discarded)) ∧ sameChannel s t := by
  obtain ⟨hfault, hrx, hfree, hlist⟩ := h.controlCell (v := takeReelOpen (clampHeader header) (linksEnded (cutShort s)))
    (e := .reelOpen (clampHeader header)) (by simp) (by simp) (by simp) (by simp) (takeReelOpen_linkFault _ _)
  refine ⟨_, exec_controlCell_cut (work := takeReelOpen (clampHeader header)) rfl hn, hfault, hrx, hfree, hlist,
    fun q => ?_, fun r hr => ?_, settle_channel s (by simp)⟩
  · rw [controlled_state, controlled_discarded]
    exact takeReelOpen_discarded _ (linksEnded (cutShort s)) q
  · have hlast : (settle s (checkHead (appendControl (.reelOpen (clampHeader header))
        (takeReelOpen (clampHeader header) (linksEnded (cutShort s)))))).reels.last =
        (takeReelOpen (clampHeader header) (linksEnded (cutShort s))).reels.last := by simp
    rw [controlled_state, controlled_discarded, hlast]
    exact takeReelOpen_ends (clampHeader header) (s := linksEnded (cutShort s)) hr

theorem activeRec_congr {t : State} (h : ∀ q, (t.reel q).state = (s.reel q).state) : activeRec t = activeRec s := by
  unfold activeRec ReelRecord.isActive
  simp only [h]

end

/-- Settles O14. -/
theorem cutShortFrameIsDiscarded : Obligations.CutShortFrameIsDiscarded := by
  unfold Obligations.CutShortFrameIsDiscarded
  refine ⟨fun s k r hn hrx ht ha => ?_, fun s k hn hrx ht => ?_⟩
  · have hcut := frameCut_treated hrx ht ha
    obtain ⟨hdiscarded, hstate, href, hcount, hdefect, hfade⟩ := cutShort_treated_units hrx ht ha
    refine ⟨fun n step cls => ?_, ?_, ?_, fun header => ?_⟩
    · obtain ⟨hfault, hnone, hsome, hleft, hreg, hrecords⟩ := hcut.frameOpen n (clampStep step) cls
      refine ⟨_, exec_frameOpen_cut s n step cls hn, hfault, hnone, hsome, hleft, (hrecords r).1.trans hdiscarded, ?_, ?_,
        by simp, by simp [hfade], settle_channel s (by simp)⟩
      · rw [hreg]; exact href
      · rw [hreg]; exact hcount
    · obtain ⟨t, he, hfault, hbetween, hfree, hlist, hrecords, hchannel⟩ := splice_cuts hcut hn
      exact ⟨t, he, hfault, hbetween, hfree, hlist, (hrecords r).trans hdiscarded, hchannel⟩
    · obtain ⟨t, he, hfault, hbetween, hfree, hlist, hrecords, hchannel⟩ := reelClose_cuts hcut hn
      exact ⟨t, he, hfault, hbetween, hfree, hlist, (hrecords r).trans hdiscarded, hchannel⟩
    · obtain ⟨t, he, hfault, hbetween, hfree, hlist, -, hends, hchannel⟩ := reelOpen_cuts hcut hn header
      refine ⟨t, he, hfault, hbetween, hfree, hlist, fun hr => ?_, hchannel⟩
      obtain ⟨hrecord, hlast⟩ := hends r ((activeRec_congr hstate).trans hr)
      exact ⟨fun h => (hrecord h).trans hdiscarded, fun h1 h2 => (hlast h1 h2).trans hdiscarded⟩
  · have hcut := frameCut_untreated hrx ht
    obtain ⟨hrecord, hreg, hdefect, hfade⟩ := cutShort_untreated_units hrx ht
    refine ⟨fun n step cls => ?_, ?_, ?_, fun header => ?_⟩
    · obtain ⟨hfault, hnone, hsome, hleft, hopened, hrecords⟩ := hcut.frameOpen n (clampStep step) cls
      refine ⟨_, exec_frameOpen_cut s n step cls hn, hfault, hnone, hsome, hleft, fun q => ?_, ?_, by simp, by simp [hfade],
        settle_channel s (by simp)⟩
      · exact ⟨(hrecords q).1.trans (hrecord q).1, (hrecords q).2.trans (hrecord q).2⟩
      · rw [hopened, hreg]
    · obtain ⟨t, he, hfault, hbetween, hfree, hlist, hrecords, hchannel⟩ := splice_cuts hcut hn
      exact ⟨t, he, hfault, hbetween, hfree, hlist, fun q => (hrecords q).trans (hrecord q).1, hchannel⟩
    · obtain ⟨t, he, hfault, hbetween, hfree, hlist, hrecords, hchannel⟩ := reelClose_cuts hcut hn
      exact ⟨t, he, hfault, hbetween, hfree, hlist, fun q => (hrecords q).trans (hrecord q).1, hchannel⟩
    · obtain ⟨t, he, hfault, hbetween, hfree, hlist, hrecords, -, hchannel⟩ := reelOpen_cuts hcut hn header
      exact ⟨t, he, hfault, hbetween, hfree, hlist, fun q hq => (hrecords q hq).trans (hrecord q).1, hchannel⟩

end Sys2Proof.Machine
end

section
/-! PROOFS. The registration unit's close of a treated frame (R65 to R77, R79). -/
namespace Sys2Proof.Machine

-- One thread a theorem is too many for the joined text under its memory limit.
set_option Elab.async false

theorem creditTo_active {s : State} {r : Fin 2} (f : Counters → Counters) (h : (s.reel r).state ≠ .free) (q : Fin 2) :
    (creditTo (some r) f s).reel q = if q = r then { s.reel r with counters := f (s.reel r).counters } else s.reel q := by
  rw [creditTo_reel]
  by_cases hq : q = r
  · subst hq
    simp [h]
  · simp [hq, Ne.symm hq]

/-! ## The acquisition step of a close -/

/-- The record after the acquisition step of a close: advanced, and settled where the latched time has run out (R75, R76). -/
def acqClosed (t : RegTable) (u : RegUnit) (x : ReelRecord) : ReelRecord :=
  if collecting x = true ∧ t.acqTimeout ≤ u.sinceOpen then
    settleAcq t.acqMin t.unshrunkPitch u.sum u.count (acqAdvance t.acqMin u.count x)
  else acqAdvance t.acqMin u.count x

theorem acqAdvance_collecting (acqMin count : Nat) (x : ReelRecord) :
    collecting (acqAdvance acqMin count x) = collecting x := by
  unfold acqAdvance
  split
  · next h =>
    split
    · simp [collecting, h]
    · rfl
  · rfl

section
variable (t : RegTable) (u : RegUnit) (x : ReelRecord)

/-- The acquisition step of a close writes the state and the acquisition's results alone. -/
theorem acqClosed_eq : ∃ st o p sh,
    acqClosed t u x = { x with state := st, acqOutcome := o, reelPitch := p, reelShrinkage := sh } := by
  have hadvance : ∃ st, acqAdvance t.acqMin u.count x = { x with state := st } := by
    unfold acqAdvance
    split
    · split <;> exact ⟨_, rfl⟩
    · exact ⟨_, rfl⟩
  obtain ⟨st, e⟩ := hadvance
  unfold acqClosed settleAcq
  rw [e]
  split
  · split <;> exact ⟨_, _, _, _, rfl⟩
  · exact ⟨_, _, _, _, rfl⟩

theorem acqClosed_kind : stateCode (acqClosed t u x).state = stateCode x.state := by
  have hadvance := (acqAdvance_kind t.acqMin u.count x).1
  unfold acqClosed
  split
  · next h => rw [(settleAcq_kind ..).1, stateCode_of_collecting h.1]
  · exact hadvance

variable {t u x}

/-- With enough samples in hand when the time has run out the acquisition locks (R76). -/
theorem acqClosed_locks (hc : collecting x = true) (ht : t.acqTimeout ≤ u.sinceOpen) (hm : t.acqMin ≤ u.count) :
    (acqClosed t u x).state = .active .locked ∧ (acqClosed t u x).acqOutcome = .locked ∧
    (acqClosed t u x).reelPitch = (u.sum + u.count / 2) / u.count ∧
    (acqClosed t u x).reelShrinkage = some (shrinkage (acqClosed t u x).reelPitch t.unshrunkPitch) := by
  unfold acqClosed settleAcq
  rw [if_pos ⟨hc, ht⟩, if_pos hm]
  exact ⟨rfl, rfl, rfl, rfl⟩

/-- With too few it fails (R76). -/
theorem acqClosed_fails (hc : collecting x = true) (ht : t.acqTimeout ≤ u.sinceOpen) (hm : u.count < t.acqMin) :
    (acqClosed t u x).state = .active .failed ∧ (acqClosed t u x).acqOutcome = .failed ∧
    (acqClosed t u x).reelPitch = x.reelPitch ∧ (acqClosed t u x).reelShrinkage = x.reelShrinkage := by
  have hadvance : acqAdvance t.acqMin u.count x = x := by
    unfold acqAdvance
    split
    · exact if_neg (Nat.not_le.mpr hm)
    · rfl
  unfold acqClosed settleAcq
  rw [if_pos ⟨hc, ht⟩, if_neg (Nat.not_le.mpr hm), hadvance]
  exact ⟨rfl, rfl, rfl, rfl⟩

/-- Before that it goes on collecting, and has the samples it needs or not (R75). -/
theorem acqClosed_goes_on (h : collecting x = false ∨ u.sinceOpen < t.acqTimeout) :
    acqClosed t u x = { x with
      state := if x.state = .active .acquiring ∧ t.acqMin ≤ u.count then .active .lockedCollecting else x.state } := by
  have hno : ¬(collecting x = true ∧ t.acqTimeout ≤ u.sinceOpen) := by
    rintro ⟨hc, ht⟩
    obtain h | h := h
    · rw [hc] at h; cases h
    · omega
  unfold acqClosed acqAdvance
  rw [if_neg hno]
  split
  · next hs =>
    by_cases hm : t.acqMin ≤ u.count
    · rw [if_pos hm, if_pos ⟨hs, hm⟩]
    · rw [if_neg hm, if_neg fun hc => hm hc.2]
  · next hs => rw [if_neg fun hc => hs hc.1]

end

section
variable (k : Fin 4) (r : Fin 2) (sample : Option Nat) (s : State)

/-- The acquisition step of a close on the registration unit's counts (R75, R77). -/
theorem acqClose_reg : (acqClose k r sample s).reg = { (acqCount sample (s.reel r) s.reg) with
    closeCopy := some ⟨(s.slot k).latch.reg.acqMin, (s.slot k).latch.reg.unshrunkPitch⟩ } := by
  simp [acqClose]

theorem acqTimeoutStep_other {q : Fin 2} (hq : q ≠ r) : (acqTimeoutStep k r s).reel q = s.reel q := by
  unfold acqTimeoutStep
  dsimp only
  split
  · split
    · rw [updReel_reel, if_neg hq]
    · rw [raiseCause_reel, updReel_reel, if_neg hq]
  · rfl

/-- The samples counted and the record advanced, before the time is looked at (R75). -/
def acqCounted : State :=
  updReel r (acqAdvance (s.slot k).latch.reg.acqMin (acqCount sample (s.reel r) s.reg).count)
    { s with reg := acqCount sample (s.reel r) s.reg }

theorem acqClose_blocks : (acqClose k r sample s).reels = (acqTimeoutStep k r (acqCounted k r sample s)).reels ∧
    (acqClose k r sample s).svc = (acqTimeoutStep k r (acqCounted k r sample s)).svc := ⟨rfl, rfl⟩

theorem acqCounted_blocks : (acqCounted k r sample s).reg = acqCount sample (s.reel r) s.reg ∧
    (acqCounted k r sample s).slot k = s.slot k ∧ (acqCounted k r sample s).svc = s.svc ∧
    collecting ((acqCounted k r sample s).reel r) = collecting (s.reel r) ∧
    ∀ q, (acqCounted k r sample s).reel q = if q = r then
      acqAdvance (s.slot k).latch.reg.acqMin (acqCount sample (s.reel r) s.reg).count (s.reel r) else s.reel q := by
  have hreel : ∀ q, (acqCounted k r sample s).reel q = if q = r then
      acqAdvance (s.slot k).latch.reg.acqMin (acqCount sample (s.reel r) s.reg).count (s.reel r) else s.reel q := fun q => by
    unfold acqCounted
    rw [updReel_reel]
    rfl
  refine ⟨rfl, rfl, rfl, ?_, hreel⟩
  rw [hreel, if_pos rfl, acqAdvance_collecting]

/-- The acquisition step on the frame's record (R75, R76). -/
theorem acqClose_reel (q : Fin 2) : (acqClose k r sample s).reel q =
    if q = r then acqClosed (s.slot k).latch.reg (acqCount sample (s.reel r) s.reg) (s.reel r) else s.reel q := by
  obtain ⟨hreg, hslot, -, hcollect, hreel⟩ := acqCounted_blocks k r sample s
  rw [reel_of_recs (congrArg ReelTable.recs (acqClose_blocks k r sample s).1)]
  by_cases hq : q = r
  · subst hq
    rw [if_pos rfl]
    unfold acqClosed
    split
    · next h =>
      obtain ⟨h1, -⟩ := acqTimeoutStep_reel (k := k) (r := q) (hcollect.trans h.1) (by rw [hslot, hreg]; exact h.2)
      rw [h1, hslot, hreg, hreel, if_pos rfl]
    · next h =>
      rw [acqTimeoutStep_idle, hreel, if_pos rfl]
      rw [hslot, hreg, hcollect]
      by_cases hc : collecting (s.reel q) = true
      · exact .inl (Nat.lt_of_not_le fun ht => h ⟨hc, ht⟩)
      · exact .inr (Bool.eq_false_iff.mpr hc)
  · rw [acqTimeoutStep_other k r _ hq, hreel, if_neg hq, if_neg hq]

theorem acqTimeoutStep_svc : (acqTimeoutStep k r s).svc = { s.svc with causes := { s.svc.causes with
    acqFailed := s.svc.causes.acqFailed || decide (collecting (s.reel r) = true ∧
      (s.slot k).latch.reg.acqTimeout ≤ s.reg.sinceOpen ∧ s.reg.count < (s.slot k).latch.reg.acqMin) } } := by
  unfold acqTimeoutStep
  dsimp only
  split
  · next h =>
    split
    · next hm => simp [Nat.not_lt.mpr hm]
    · next hm => simp [h.1, h.2, Nat.lt_of_not_le hm, raiseCause, latchCause]
  · next h =>
    have hno : ¬(collecting (s.reel r) = true ∧ (s.slot k).latch.reg.acqTimeout ≤ s.reg.sinceOpen ∧
      s.reg.count < (s.slot k).latch.reg.acqMin) := fun hc => h ⟨hc.1, hc.2.1⟩
    simp only [decide_eq_false hno, Bool.or_false]

/-- The failure that the acquisition step may raise (R76). -/
theorem acqClose_svc : (acqClose k r sample s).svc = { s.svc with causes := { s.svc.causes with
    acqFailed := s.svc.causes.acqFailed || decide (collecting (s.reel r) = true ∧
      (s.slot k).latch.reg.acqTimeout ≤ (acqCount sample (s.reel r) s.reg).sinceOpen ∧
      (acqCount sample (s.reel r) s.reg).count < (s.slot k).latch.reg.acqMin) } } := by
  obtain ⟨hreg, hslot, hsvc, hcollect, -⟩ := acqCounted_blocks k r sample s
  rw [(acqClose_blocks k r sample s).2, acqTimeoutStep_svc, hreg, hslot, hsvc, hcollect]

theorem acqClose_reports : (acqClose k r sample s).reels.last = s.reels.last ∧
    (acqClose k r sample s).reels.waiting = s.reels.waiting ∧ (acqClose k r sample s).reels.refused = s.reels.refused := by
  rw [(acqClose_blocks k r sample s).1]
  unfold acqTimeoutStep
  dsimp only
  split
  · split <;> exact ⟨rfl, rfl, rfl⟩
  · exact ⟨rfl, rfl, rfl⟩

end

/-! ## The close of the registration unit -/

/-- The used holes of a frame at its close (R63). -/
def closingHoles (k : Fin 4) (r : Fin 2) (s : State) : HoleState :=
  endRun (s.slot k).latch.reg (s.reel r).header.holes (s.reel r).header.lines s.reg.hole

/-- What a close measures (R68 to R71). -/
def closingMeasure (k : Fin 4) (r : Fin 2) (s : State) : Measure :=
  measure (s.slot k).latch.reg (pitchInUse (s.reel r) (s.slot k).latch.reg) (s.reel r).header.holes (closingHoles k r s).used s.reg

/-- REG_HELD of a closing frame (R65). -/
def closingHeld (k : Fin 4) (r : Fin 2) (s : State) : Bool :=
  frameHeld (s.slot k).latch.reg (closingHoles k r s).used.length (s.reel r).header.holes

/-- The registration unit's counts after a close (R75). -/
def closingCount (k : Fin 4) (r : Fin 2) (s : State) : RegUnit := acqCount (closingMeasure k r s).sample (s.reel r) s.reg

/-- The record of a reel after the registration unit's close of a frame of it, but for the credit (R74 to R76). -/
def closingRecord (k : Fin 4) (r : Fin 2) (s : State) : ReelRecord :=
  takePeak (closingMeasure k r s).sample (s.slot k).latch.reg.unshrunkPitch
    (acqClosed (s.slot k).latch.reg (closingCount k r s) (s.reel r))

theorem acqCount_measured (sample : Option Nat) (x : ReelRecord) (u : RegUnit) (hole : HoleState) (ref : Option Reference)
    (dx dy : Int) : acqCount sample x { u with hole := hole, ref := ref, goodDx := dx, goodDy := dy } =
      { (acqCount sample x u) with hole := hole, ref := ref, goodDx := dx, goodDy := dy } := by
  unfold acqCount addSample
  dsimp only
  split
  · split <;> rfl
  · rfl

section
variable (k : Fin 4) (r : Fin 2) (s : State)

/-- The registration unit before the acquisition step of a close (R79). -/
def holesMeasured : State := { s with reg := { s.reg with
  hole := closingHoles k r s, ref := (closingMeasure k r s).ref, goodDx := (closingMeasure k r s).goodDx,
  goodDy := (closingMeasure k r s).goodDy } }

theorem holesMeasured_blocks : (holesMeasured k r s).slot k = s.slot k ∧ (holesMeasured k r s).reel = s.reel ∧
    (holesMeasured k r s).svc = s.svc ∧
    acqCount (closingMeasure k r s).sample (s.reel r) (holesMeasured k r s).reg = { (closingCount k r s) with
      hole := closingHoles k r s, ref := (closingMeasure k r s).ref, goodDx := (closingMeasure k r s).goodDx,
      goodDy := (closingMeasure k r s).goodDy } :=
  ⟨rfl, rfl, rfl, acqCount_measured ..⟩

theorem regClose_eq : regClose k r s =
    let s2 := updReel r (takePeak (closingMeasure k r s).sample (s.slot k).latch.reg.unshrunkPitch)
      (acqClose k r (closingMeasure k r s).sample (holesMeasured k r s))
    let s3 := updSlot k (fun x => { x with
      dx := (closingMeasure k r s).dx, dy := (closingMeasure k r s).dy,
      confidence := confidenceOf (closingHoles k r s).used.length (s.reel r).header.holes,
      regHeld := closingHeld k r s, shiftClamped := (closingMeasure k r s).clamped }) s2
    let s4 := creditTo (some r) (fun c => { c with held := credit32 c.held (flag (closingHeld k r s)) }) s3
    { s4 with reg := { s4.reg with lastHeld := closingHeld k r s } } := rfl

theorem regClose_reg : (regClose k r s).reg = { (closingCount k r s) with
    hole := closingHoles k r s, ref := (closingMeasure k r s).ref, goodDx := (closingMeasure k r s).goodDx,
    goodDy := (closingMeasure k r s).goodDy, lastHeld := closingHeld k r s
    closeCopy := some ⟨(s.slot k).latch.reg.acqMin, (s.slot k).latch.reg.unshrunkPitch⟩ } := by
  obtain ⟨hslot, hreel, -, hcount⟩ := holesMeasured_blocks k r s
  have h := acqClose_reg k r (closingMeasure k r s).sample (holesMeasured k r s)
  rw [hreel, hslot, hcount] at h
  rw [regClose_eq]
  simp only [creditTo_frame, updSlot_reg, updReel_reg, h]

theorem regClose_slot (j : Fin 4) : (regClose k r s).slot j = if j = k then { s.slot k with
    dx := (closingMeasure k r s).dx, dy := (closingMeasure k r s).dy,
    confidence := confidenceOf (closingHoles k r s).used.length (s.reel r).header.holes,
    regHeld := closingHeld k r s, shiftClamped := (closingMeasure k r s).clamped } else s.slot j := by
  have h : ∀ j, (acqClose k r (closingMeasure k r s).sample (holesMeasured k r s)).slot j = s.slot j :=
    slot_of_store (by simp [holesMeasured])
  rw [regClose_eq]
  simp only [slot_mk, store_slots_get, creditTo_slot, updSlot_slot, updReel_slot, h]

theorem regClose_svc : (regClose k r s).svc = { s.svc with causes := { s.svc.causes with
    acqFailed := s.svc.causes.acqFailed || decide (collecting (s.reel r) = true ∧
      (s.slot k).latch.reg.acqTimeout ≤ (closingCount k r s).sinceOpen ∧
      (closingCount k r s).count < (s.slot k).latch.reg.acqMin) } } := by
  obtain ⟨hslot, hreel, hsvc, hcount⟩ := holesMeasured_blocks k r s
  have h := acqClose_svc k r (closingMeasure k r s).sample (holesMeasured k r s)
  rw [hreel, hslot, hsvc, hcount] at h
  rw [regClose_eq]
  simp only [creditTo_frame, updSlot_svc, updReel_svc, h]

theorem regClose_reports : (regClose k r s).reels.last = s.reels.last ∧ (regClose k r s).reels.waiting = s.reels.waiting ∧
    (regClose k r s).reels.refused = s.reels.refused := by
  have h := acqClose_reports k r (closingMeasure k r s).sample (holesMeasured k r s)
  rw [regClose_eq]
  simpa [holesMeasured] using h

variable {s r}

theorem closingRecord_kind (ha : (s.reel r).isActive = true) : stateCode (closingRecord k r s).state = 1 := by
  unfold closingRecord
  rw [(takePeak_kind ..).1, acqClosed_kind, (isActive_iff _).mp ha]

/-- The registration unit's close on its reel's record, with the credit of a held frame (R79). -/
theorem regClose_reel (ha : (s.reel r).isActive = true) (q : Fin 2) : (regClose k r s).reel q =
    if q = r then { closingRecord k r s with
      counters := { (s.reel r).counters with held := credit32 (s.reel r).counters.held (flag (closingHeld k r s)) } }
    else s.reel q := by
  obtain ⟨w, hw⟩ : ∃ w, w = acqClose k r (closingMeasure k r s).sample (holesMeasured k r s) := ⟨_, rfl⟩
  have hreel : ∀ q, w.reel q = if q = r then acqClosed (s.slot k).latch.reg (closingCount k r s) (s.reel r) else s.reel q :=
    fun q => by
      obtain ⟨hslot, hreel, -, hcount⟩ := holesMeasured_blocks k r s
      rw [hw, acqClose_reel, hreel, hslot, hcount]
      rfl
  have hkind := closingRecord_kind k ha
  have hcounters : (closingRecord k r s).counters = (s.reel r).counters := by
    obtain ⟨st, o, p, sh, e⟩ := acqClosed_eq (s.slot k).latch.reg (closingCount k r s) (s.reel r)
    unfold closingRecord
    rw [(takePeak_kind ..).2, e]
  have hne : (closingRecord k r s).state ≠ .free := fun e => by rw [e] at hkind; exact absurd hkind (by decide)
  rw [regClose_eq, ← hw]
  dsimp only
  rw [reel_mk, reels_recs_get, creditTo_active]
  · simp only [updSlot_reel, updReel_reel, if_true, hreel]
    split
    · show ({ closingRecord k r s with counters := _ } : ReelRecord) = _
      rw [← hcounters]
      rfl
    · rfl
  · simp only [updSlot_reel, updReel_reel, if_true, hreel]
    exact hne

end

end Sys2Proof.Machine
end

section
/-! PROOFS. The defect unit's and the grading pipeline's close of a treated frame, and transport control's decisions at it
(R87, R92 to R94, R107, R108, R112 to R116, R147, R148). -/
namespace Sys2Proof.Machine

-- One thread a theorem is too many for the joined text under its memory limit.
set_option Elab.async false

/-! ## The defect unit's close -/

/-- The frame's regions classified, with the tracks they leave (R107, R112, R113). -/
def closingRegions (k : Fin 4) (s : State) : List Region × List Track :=
  classifyRegions (s.slot k).latch.defect (s.slot k).frameNo (s.slot k).regions
    (candidateGate (s.slot k).frameNo (clearMarks s.defect.tracks))

/-- The tracks that retire at the frame's close (R114). -/
def closingRetired (k : Fin 4) (s : State) : List Track :=
  (countMisses (closingRegions k s).2).filter (retires (s.slot k).latch.defect)

/-- A tear run starts at the frame's close (R108). -/
def closingTearStarts (k : Fin 4) (s : State) : Bool :=
  hasTear (closingRegions k s).1 && startsTearRun s.defect.tearMem (s.slot k).frameNo

/-- The defect unit's credits at a close (R108, R114, R116). -/
def creditDefects (retired : Nat) (tears : Bool) (lost : Nat) (c : Counters) : Counters :=
  { c with
    scratches := credit32 c.scratches retired, tearRuns := credit32 c.tearRuns (flag tears), lost := credit32 c.lost lost }

theorem judgeTear_reel (r q : Fin 2) (n : Word) (torn : Bool) (s : State) : (judgeTear r n torn s).reel q =
    (creditTo (some r) (fun c => { c with
      tearRuns := credit32 c.tearRuns (flag (torn && startsTearRun s.defect.tearMem n)) }) s).reel q := by
  unfold judgeTear
  dsimp only
  split <;> rfl

theorem judgeTear_defect (r : Fin 2) (n : Word) (torn : Bool) (s : State) :
    (judgeTear r n torn s).defect = { s.defect with tearMem := some ⟨n, torn⟩ } := by
  unfold judgeTear
  dsimp only
  split <;> simp

theorem judgeTear_svc (r : Fin 2) (n : Word) (torn : Bool) (s : State) :
    (judgeTear r n torn s).svc = { s.svc with causes := { s.svc.causes with
      tear := s.svc.causes.tear || (torn && startsTearRun s.defect.tearMem n) } } := by
  unfold judgeTear
  dsimp only
  split
  · next h => simp [raiseCause, latchCause, h]
  · next h => simp [h]

theorem judgeTear_reports (r : Fin 2) (n : Word) (torn : Bool) (s : State) :
    (judgeTear r n torn s).reels.last = s.reels.last ∧ (judgeTear r n torn s).reels.waiting = s.reels.waiting ∧
    (judgeTear r n torn s).reels.refused = s.reels.refused := by
  unfold judgeTear
  dsimp only
  split <;> simp

section
variable (k : Fin 4) (r : Fin 2) (s : State)

/-- The tracks counted at a close, before any retires (R113). -/
def tracksCounted : State := { s with defect := { s.defect with tracks := countMisses (closingRegions k s).2 } }

theorem tracksCounted_blocks : (tracksCounted k s).slot = s.slot ∧ (tracksCounted k s).reel = s.reel ∧
    (tracksCounted k s).svc = s.svc ∧ (tracksCounted k s).reels = s.reels ∧
    (tracksCounted k s).defect = { s.defect with tracks := countMisses (closingRegions k s).2 } := ⟨rfl, rfl, rfl, rfl, rfl⟩

theorem defectClose_eq : defectClose k r s =
    creditTo (some r) (fun n => { n with lost := credit32 n.lost (s.slot k).regionsLost })
      (updSlot k (fun x => { x with regions := (closingRegions k s).1, tearPresent := hasTear (closingRegions k s).1 })
        (judgeTear r (s.slot k).frameNo (hasTear (closingRegions k s).1) (retireTracks k r (tracksCounted k s)))) := rfl

theorem defectClose_slot (j : Fin 4) : (defectClose k r s).slot j = if j = k then { s.slot k with
    regions := (closingRegions k s).1, tearPresent := hasTear (closingRegions k s).1 } else s.slot j := by
  obtain ⟨hslot, -⟩ := tracksCounted_blocks k s
  rw [defectClose_eq]
  simp only [creditTo_slot, updSlot_slot, judgeTear_slot, retireTracks_slot, hslot]

theorem defectClose_defect : (defectClose k r s).defect = { s.defect with
    tracks := (countMisses (closingRegions k s).2).filter (fun x => !retires (s.slot k).latch.defect x)
    tearMem := some ⟨(s.slot k).frameNo, hasTear (closingRegions k s).1⟩ } := by
  obtain ⟨hslot, -, -, -, hdefect⟩ := tracksCounted_blocks k s
  rw [defectClose_eq]
  simp only [creditTo_frame, updSlot_defect, judgeTear_defect, retireTracks_defect, hdefect, hslot]

theorem defectClose_svc : (defectClose k r s).svc = { s.svc with causes := { s.svc.causes with
    tear := s.svc.causes.tear || closingTearStarts k s } } := by
  obtain ⟨-, -, hsvc, -, hdefect⟩ := tracksCounted_blocks k s
  rw [defectClose_eq]
  simp only [creditTo_frame, updSlot_svc, judgeTear_svc, retireTracks_frame, retireTracks_defect, hsvc, hdefect]
  rfl

theorem defectClose_reports : (defectClose k r s).reels.last = s.reels.last ∧
    (defectClose k r s).reels.waiting = s.reels.waiting ∧ (defectClose k r s).reels.refused = s.reels.refused := by
  obtain ⟨h1, h2, h3⟩ := judgeTear_reports r (s.slot k).frameNo (hasTear (closingRegions k s).1) (retireTracks k r (tracksCounted k s))
  rw [defectClose_eq]
  simp only [creditTo_reports, updSlot_reels, h1, h2, h3]
  simp [retireTracks, tracksCounted]

variable {s r}

/-- The defect unit's credits to the frame's reel (R108, R114, R116). -/
theorem defectClose_reel (h : (s.reel r).state ≠ .free) (q : Fin 2) : (defectClose k r s).reel q =
    if q = r then { (s.reel r) with
      counters := creditDefects (closingRetired k s).length (closingTearStarts k s) (s.slot k).regionsLost (s.reel r).counters }
    else s.reel q := by
  obtain ⟨hslot, hreel, -, -, hdefect⟩ := tracksCounted_blocks k s
  have hretire : ∀ q, (retireTracks k r (tracksCounted k s)).reel q = if q = r then { s.reel r with
      counters := { (s.reel r).counters with
        scratches := credit32 (s.reel r).counters.scratches (closingRetired k s).length } } else s.reel q := fun q => by
    rw [retireTracks_reel, hreel, hslot, hdefect]
    by_cases hq : q = r
    · subst hq
      rw [if_pos ⟨rfl, h⟩, if_pos rfl]
      rfl
    · rw [if_neg fun hc => hq (Option.some.inj hc.1).symm, if_neg hq]
  have htear : ∀ q, (judgeTear r (s.slot k).frameNo (hasTear (closingRegions k s).1)
      (retireTracks k r (tracksCounted k s))).reel q = if q = r then { s.reel r with
        counters := { (s.reel r).counters with
          scratches := credit32 (s.reel r).counters.scratches (closingRetired k s).length,
          tearRuns := credit32 (s.reel r).counters.tearRuns (flag (closingTearStarts k s)) } } else s.reel q := fun q => by
    rw [judgeTear_reel, creditTo_active _ (by rw [hretire, if_pos rfl]; exact h), hretire, if_pos rfl, retireTracks_defect, hdefect,
      hretire]
    split <;> rfl
  rw [defectClose_eq, creditTo_active _ (by rw [updSlot_reel, htear, if_pos rfl]; exact h), updSlot_reel, updSlot_reel, htear,
    if_pos rfl, htear]
  split <;> rfl

end

/-! ## The grading pipeline's close -/

/-- The fade state after a frame's close (R144 to R147). -/
def closingFade (k : Fin 4) (s : State) : Rgb ChannelFade := fadeClose (setInForce s.grade) (s.slot k).hist s.grade.fade

section
variable (k : Fin 4) (r : Fin 2) (s : State)

theorem gradeClose_slot (j : Fin 4) : (gradeClose k r s).slot j =
    if j = k then { s.slot k with fade := appliedFade (closingFade k s) } else s.slot j := by
  unfold gradeClose
  simp only [writeTo_slot, updSlot_slot, slot_mk, store_slots_get, closingFade]

theorem gradeClose_grade : (gradeClose k r s).grade = { s.grade with fade := closingFade k s } := by
  simp [gradeClose, closingFade]

theorem gradeClose_reports : (gradeClose k r s).reels.last = s.reels.last ∧
    (gradeClose k r s).reels.waiting = s.reels.waiting ∧ (gradeClose k r s).reels.refused = s.reels.refused := by
  simp [gradeClose]

variable {s r}

theorem gradeClose_reel (h : (s.reel r).state ≠ .free) (q : Fin 2) : (gradeClose k r s).reel q =
    if q = r then { s.reel r with maxGain := max (s.reel r).maxGain (largestGain (closingFade k s)) } else s.reel q := by
  unfold gradeClose
  rw [writeTo_reel]
  by_cases hq : q = r
  · subst hq
    simp [h, closingFade]
  · simp [hq]

end

/-! ## Transport control -/

/-- What the exposure decision reads and the speed decision leaves (R87, R92). -/
theorem speedClose_frame (tear acquiring held : Bool) (conf upConf : Nat) (x : Transport) :
    ∃ c a b, speedClose tear acquiring held conf upConf x = { x with cls := c, heldRun := a, goodRun := b } := by
  unfold speedClose countHeld countGood atCeiling
  dsimp only
  (repeat' split) <;> exact ⟨_, _, _, rfl⟩

/-- An exposure decision writes the commanded step and its bookkeeping alone (R92, R93). -/
theorem exposureAdopted_frame (reported highPm : Nat) (h : Rgb (Vector Nat 64)) (last : Option Nat) (x : Transport) :
    ∃ c m b, adoptStep reported { (exposureClose reported highPm h x) with lastReported := last } =
      { x with cmdStep := c, mismatch := m, stale := b, lastReported := last } ∧
      (adoptStep reported (exposureClose reported highPm h x)).cmdStep = c ∧
      (adoptStep reported (exposureClose reported highPm h x)).mismatch = m ∧
      (adoptStep reported (exposureClose reported highPm h x)).stale = b := by
  unfold exposureClose adoptStep
  dsimp only
  (repeat' split) <;> exact ⟨_, _, _, rfl, rfl, rfl, rfl⟩

end Sys2Proof.Machine
end

section
/-! PROOFS. The FRAME_CLOSE of a treated and of an untreated frame (R9, R44, R45, R79, R116, R148). -/
namespace Sys2Proof.Machine

-- One thread a theorem is too many for the joined text under its memory limit.
set_option Elab.async false

/-! ## The record and the counts after the registration unit's close -/

theorem takePeak_eq (sample : Option Nat) (unshrunk : Nat) (x : ReelRecord) :
    ∃ p, takePeak sample unshrunk x = { x with peakShrinkage := p } := by
  unfold takePeak
  split <;> exact ⟨_, rfl⟩

/-- The peak shrinkage takes a LOCKED reel's sample, and stands otherwise (R74). -/
theorem takePeak_peak (sample : Option Nat) (unshrunk : Nat) (x : ReelRecord) :
    (∀ p, sample = some p → x.state = .active .locked → (takePeak sample unshrunk x).peakShrinkage =
      some (max (x.peakShrinkage.getD (shrinkage p unshrunk)) (shrinkage p unshrunk))) ∧
    ((x.state ≠ .active .locked ∨ sample = none) → (takePeak sample unshrunk x).peakShrinkage = x.peakShrinkage) := by
  unfold takePeak
  refine ⟨fun p hp hs => ?_, fun h => ?_⟩
  · rw [hp, hs]
    cases x.peakShrinkage <;> simp
  · split
    · next p hs => exact absurd hs (by simpa using h)
    · rfl

section
variable (k : Fin 4) (r : Fin 2) (s : State)

/-- The counts of a close (R75). -/
theorem closingCount_counts : (closingCount k r s).sinceOpen = satAdd 65535 s.reg.sinceOpen 1 ∧
    (∀ p, (closingMeasure k r s).sample = some p → collecting (s.reel r) = true →
      (closingCount k r s).sum = s.reg.sum + p ∧ (closingCount k r s).count = s.reg.count + 1) ∧
    ((collecting (s.reel r) = false ∨ (closingMeasure k r s).sample = none) →
      (closingCount k r s).sum = s.reg.sum ∧ (closingCount k r s).count = s.reg.count) := by
  unfold closingCount acqCount addSample
  dsimp only
  cases hc : collecting (s.reel r) <;> cases hm : (closingMeasure k r s).sample <;> simp

/-- A close writes the acquisition's results and the peak of its reel's record alone (R74 to R76). -/
theorem closingRecord_eq : ∃ st o p sh pk, closingRecord k r s =
    { s.reel r with state := st, acqOutcome := o, reelPitch := p, reelShrinkage := sh, peakShrinkage := pk } := by
  obtain ⟨st, o, p, sh, e⟩ := acqClosed_eq (s.slot k).latch.reg (closingCount k r s) (s.reel r)
  obtain ⟨pk, hpk⟩ := takePeak_eq (closingMeasure k r s).sample (s.slot k).latch.reg.unshrunkPitch
    (acqClosed (s.slot k).latch.reg (closingCount k r s) (s.reel r))
  refine ⟨st, o, p, sh, pk, hpk.trans ?_⟩
  rw [e]

/-- The acquisition at a close: locked, failed, or going on (R75, R76). -/
theorem closingRecord_acquisition :
    (collecting (s.reel r) = true → (s.slot k).latch.reg.acqTimeout ≤ (closingCount k r s).sinceOpen →
      (s.slot k).latch.reg.acqMin ≤ (closingCount k r s).count →
      (closingRecord k r s).state = .active .locked ∧ (closingRecord k r s).acqOutcome = .locked ∧
      (closingRecord k r s).reelPitch = ((closingCount k r s).sum + (closingCount k r s).count / 2) / (closingCount k r s).count ∧
      (closingRecord k r s).reelShrinkage =
        some (shrinkage (closingRecord k r s).reelPitch (s.slot k).latch.reg.unshrunkPitch)) ∧
    (collecting (s.reel r) = true → (s.slot k).latch.reg.acqTimeout ≤ (closingCount k r s).sinceOpen →
      (closingCount k r s).count < (s.slot k).latch.reg.acqMin →
      (closingRecord k r s).state = .active .failed ∧ (closingRecord k r s).acqOutcome = .failed ∧
      (closingRecord k r s).reelPitch = (s.reel r).reelPitch ∧
      (closingRecord k r s).reelShrinkage = (s.reel r).reelShrinkage) ∧
    ((collecting (s.reel r) = false ∨ (closingCount k r s).sinceOpen < (s.slot k).latch.reg.acqTimeout) →
      (closingRecord k r s).state = (if (s.reel r).state = .active .acquiring ∧
          (s.slot k).latch.reg.acqMin ≤ (closingCount k r s).count then .active .lockedCollecting else (s.reel r).state) ∧
      (closingRecord k r s).acqOutcome = (s.reel r).acqOutcome ∧ (closingRecord k r s).reelPitch = (s.reel r).reelPitch ∧
      (closingRecord k r s).reelShrinkage = (s.reel r).reelShrinkage) := by
  obtain ⟨pk, hpk⟩ := takePeak_eq (closingMeasure k r s).sample (s.slot k).latch.reg.unshrunkPitch
    (acqClosed (s.slot k).latch.reg (closingCount k r s) (s.reel r))
  unfold closingRecord
  rw [hpk]
  refine ⟨acqClosed_locks, acqClosed_fails, fun h => ?_⟩
  rw [acqClosed_goes_on h]
  exact ⟨rfl, rfl, rfl, rfl⟩

/-- The peak shrinkage at a close (R74). -/
theorem closingRecord_peak :
    (∀ p, (closingMeasure k r s).sample = some p → (closingRecord k r s).state = .active .locked →
      (closingRecord k r s).peakShrinkage = some (max
        ((s.reel r).peakShrinkage.getD (shrinkage p (s.slot k).latch.reg.unshrunkPitch))
        (shrinkage p (s.slot k).latch.reg.unshrunkPitch))) ∧
    (((closingRecord k r s).state ≠ .active .locked ∨ (closingMeasure k r s).sample = none) →
      (closingRecord k r s).peakShrinkage = (s.reel r).peakShrinkage) := by
  obtain ⟨st, o, p, sh, e⟩ := acqClosed_eq (s.slot k).latch.reg (closingCount k r s) (s.reel r)
  have h := takePeak_peak (closingMeasure k r s).sample (s.slot k).latch.reg.unshrunkPitch
    (acqClosed (s.slot k).latch.reg (closingCount k r s) (s.reel r))
  rw [← (takePeak_kind (closingMeasure k r s).sample (s.slot k).latch.reg.unshrunkPitch
    (acqClosed (s.slot k).latch.reg (closingCount k r s) (s.reel r))).1] at h
  have hp : (acqClosed (s.slot k).latch.reg (closingCount k r s) (s.reel r)).peakShrinkage = (s.reel r).peakShrinkage := by
    rw [e]
  rw [hp] at h
  exact h

end

/-! ## The three units together -/

section
variable (k : Fin 4) (r : Fin 2) (s : State)

theorem closingRegions_regClose : closingRegions k (regClose k r s) = closingRegions k s ∧
    closingRetired k (regClose k r s) = closingRetired k s ∧ closingTearStarts k (regClose k r s) = closingTearStarts k s := by
  have hdefect : (regClose k r s).defect = s.defect := by simp
  have h : closingRegions k (regClose k r s) = closingRegions k s := by
    unfold closingRegions
    rw [regClose_slot, if_pos rfl, hdefect]
  unfold closingRetired closingTearStarts
  rw [h, regClose_slot, if_pos rfl, hdefect]
  exact ⟨rfl, rfl, rfl⟩

theorem closingFade_defectClose : closingFade k (defectClose k r (regClose k r s)) = closingFade k s := by
  have hgrade : (defectClose k r (regClose k r s)).grade = s.grade := by simp
  unfold closingFade
  rw [defectClose_slot, if_pos rfl, regClose_slot, if_pos rfl, hgrade]

/-- The slot of a frame that closes, before transport control's part of it (R79, R116, R148). -/
def closedSlot : Slot := { s.slot k with
  state := .closed, dx := (closingMeasure k r s).dx, dy := (closingMeasure k r s).dy,
  confidence := confidenceOf (closingHoles k r s).used.length (s.reel r).header.holes, regHeld := closingHeld k r s,
  shiftClamped := (closingMeasure k r s).clamped, regions := (closingRegions k s).1,
  tearPresent := hasTear (closingRegions k s).1, fade := appliedFade (closingFade k s) }

theorem unitsClosed_slot (j : Fin 4) : (unitsClosed k r s).slot j =
    if j = k then { closedSlot k r s with state := (s.slot k).state } else s.slot j := by
  obtain ⟨hregions, -⟩ := closingRegions_regClose k r s
  unfold unitsClosed
  rw [gradeClose_slot, closingFade_defectClose, defectClose_slot, defectClose_slot, hregions, regClose_slot, regClose_slot]
  by_cases hj : j = k
  · subst hj
    simp only [if_true]
    rfl
  · simp only [if_neg hj]

/-- The record of a reel after the close of a frame of it (R79, R116, R148). -/
def closedRecord : ReelRecord := { closingRecord k r s with
  maxGain := max (s.reel r).maxGain (largestGain (closingFade k s))
  counters := creditDefects (closingRetired k s).length (closingTearStarts k s) (s.slot k).regionsLost
    { (s.reel r).counters with held := credit32 (s.reel r).counters.held (flag (closingHeld k r s)) } }

variable {s r}

theorem unitsClosed_reel (ha : (s.reel r).isActive = true) (q : Fin 2) :
    (unitsClosed k r s).reel q = if q = r then closedRecord k r s else s.reel q := by
  have hkind := closingRecord_kind k ha
  have hne : (closingRecord k r s).state ≠ .free := fun e => by rw [e] at hkind; exact absurd hkind (by decide)
  have hgain : (closingRecord k r s).maxGain = (s.reel r).maxGain := by
    obtain ⟨st, o, p, sh, pk, e⟩ := closingRecord_eq k r s
    rw [e]
  obtain ⟨-, hretired, htears⟩ := closingRegions_regClose k r s
  have hlost : ((regClose k r s).slot k).regionsLost = (s.slot k).regionsLost := by rw [regClose_slot, if_pos rfl]
  have hr : (regClose k r s).reel r = { closingRecord k r s with
      counters := { (s.reel r).counters with held := credit32 (s.reel r).counters.held (flag (closingHeld k r s)) } } := by
    rw [regClose_reel k ha, if_pos rfl]
  have hstate1 : ((regClose k r s).reel r).state ≠ .free := by rw [hr]; exact hne
  have hdefect := defectClose_reel k (s := regClose k r s) hstate1
  have hstate2 : ((defectClose k r (regClose k r s)).reel r).state ≠ .free := by
    rw [hdefect, if_pos rfl]
    exact hstate1
  unfold unitsClosed
  rw [gradeClose_reel k hstate2, closingFade_defectClose, hdefect, hdefect, if_pos rfl, hretired, htears, hlost]
  by_cases hq : q = r
  · rw [if_pos hq, if_pos hq, hr]
    unfold closedRecord
    rw [← hgain]
  · rw [if_neg hq, if_neg hq, if_neg hq, regClose_reel k ha, if_neg hq]

variable (s r)

theorem unitsClosed_units : (unitsClosed k r s).reg = (regClose k r s).reg ∧
    (unitsClosed k r s).defect = { s.defect with
      tracks := (countMisses (closingRegions k s).2).filter (fun x => !retires (s.slot k).latch.defect x)
      tearMem := some ⟨(s.slot k).frameNo, hasTear (closingRegions k s).1⟩ } ∧
    (unitsClosed k r s).grade = { s.grade with fade := closingFade k s } ∧
    (unitsClosed k r s).svc = { s.svc with causes := { s.svc.causes with
      acqFailed := s.svc.causes.acqFailed || decide (collecting (s.reel r) = true ∧
        (s.slot k).latch.reg.acqTimeout ≤ (closingCount k r s).sinceOpen ∧
        (closingCount k r s).count < (s.slot k).latch.reg.acqMin)
      tear := s.svc.causes.tear || closingTearStarts k s } } ∧
    sameReports s (unitsClosed k r s) ∧ (unitsClosed k r s).store.list = s.store.list := by
  obtain ⟨hregions, -, htears⟩ := closingRegions_regClose k r s
  obtain ⟨a1, a2, a3⟩ := regClose_reports k r s
  obtain ⟨b1, b2, b3⟩ := defectClose_reports k r (regClose k r s)
  obtain ⟨c1, c2, c3⟩ := gradeClose_reports k r (defectClose k r (regClose k r s))
  have hgrade : (defectClose k r (regClose k r s)).grade = s.grade := by simp
  have hdefect : (regClose k r s).defect = s.defect := by simp
  have hsvc : (unitsClosed k r s).svc = { s.svc with causes := { s.svc.causes with
      acqFailed := s.svc.causes.acqFailed || decide (collecting (s.reel r) = true ∧
        (s.slot k).latch.reg.acqTimeout ≤ (closingCount k r s).sinceOpen ∧
        (closingCount k r s).count < (s.slot k).latch.reg.acqMin)
      tear := s.svc.causes.tear || closingTearStarts k s } } := by
    have h : (unitsClosed k r s).svc = (defectClose k r (regClose k r s)).svc := by simp [unitsClosed]
    rw [h, defectClose_svc, regClose_svc, htears]
  have hreports : sameReports s (unitsClosed k r s) := by
    unfold sameReports
    rw [hsvc]
    unfold unitsClosed
    rw [c1, c2, c3, b1, b2, b3, a1, a2, a3]
    exact ⟨rfl, rfl, rfl, rfl, rfl⟩
  refine ⟨by simp [unitsClosed], ?_, ?_, hsvc, hreports, ?_⟩
  · have h : (unitsClosed k r s).defect = (defectClose k r (regClose k r s)).defect := by simp [unitsClosed]
    rw [h, defectClose_defect, hregions, regClose_slot, if_pos rfl, hdefect]
  · unfold unitsClosed
    rw [gradeClose_grade, closingFade_defectClose, hgrade]
  · simp [unitsClosed, gradeClose, defectClose_eq, tracksCounted, regClose_eq, holesMeasured]

end

/-! ## The frame CLOSED, and transport control -/

/-- The frame CLOSED and its predecessor's link READY, before transport control decides (R9, R44). -/
def frameStored (k : Fin 4) (r : Fin 2) (s : State) : State :=
  movePending k (.ready k) (updSlot k (fun x => { x with state := .closed }) (unitsClosed k r s))

theorem transportClose_slot (k : Fin 4) (r : Fin 2) (u : State) (j : Fin 4) : (transportClose k r u).slot j =
    if j = k then { u.slot k with
      exposureChanged := exposureChangedFrom u.xport.lastReported (u.slot k).repStep } else u.slot j := by
  unfold transportClose
  dsimp only
  rw [updSlot_slot]
  rfl

theorem transportClose_list (k : Fin 4) (r : Fin 2) (u : State) :
    (transportClose k r u).store.list = u.store.list := rfl

/-- Transport control's two decisions at a close (R87, R92, R93). -/
theorem transportClose_decides (k : Fin 4) (r : Fin 2) (u : State) :
    (∃ c a b d m st, (transportClose k r u).xport = { u.xport with
      cls := c, heldRun := a, goodRun := b, cmdStep := d, mismatch := m, stale := st, lastReported := some (u.slot k).repStep }) ∧
    speedDecided (u.slot k).tearPresent (decide ((u.reel r).state = .active .acquiring)) (u.slot k).regHeld
      (u.slot k).confidence (u.slot k).latch.reg.upConf u.xport (transportClose k r u).xport ∧
    exposureDecided (u.slot k).repStep (gradeVal (setInForce u.grade) 222).toNat
      [(u.slot k).hist.r, (u.slot k).hist.g, (u.slot k).hist.b] u.xport (transportClose k r u).xport := by
  obtain ⟨v, hv⟩ : ∃ v, v = speedClose (u.slot k).tearPresent (decide ((u.reel r).state = .active .acquiring)) (u.slot k).regHeld
      (u.slot k).confidence (u.slot k).latch.reg.upConf u.xport := ⟨_, rfl⟩
  have hx : (transportClose k r u).xport = adoptStep (u.slot k).repStep
      { (exposureClose (u.slot k).repStep (gradeVal (setInForce u.grade) 222).toNat (u.slot k).hist v) with
        lastReported := some (u.slot k).repStep } := by
    rw [hv]
    rfl
  have hspeed := speedClose_decided (u.slot k).tearPresent (decide ((u.reel r).state = .active .acquiring)) (u.slot k).regHeld
    (u.slot k).confidence (u.slot k).latch.reg.upConf u.xport
  obtain ⟨c, a, b, he⟩ := speedClose_frame (u.slot k).tearPresent (decide ((u.reel r).state = .active .acquiring))
    (u.slot k).regHeld (u.slot k).confidence (u.slot k).latch.reg.upConf u.xport
  rw [← hv] at he
  rw [← hv, he] at hspeed
  have hexposure := exposureClose_decided (u.slot k).repStep (gradeVal (setInForce u.grade) 222).toNat (u.slot k).hist v
  obtain ⟨d, m, st, hy, hd, hm, hst⟩ := exposureAdopted_frame (u.slot k).repStep (gradeVal (setInForce u.grade) 222).toNat
    (u.slot k).hist (some (u.slot k).repStep) v
  unfold exposureDecided at hexposure
  rw [hd, hm, hst, he] at hexposure
  rw [hx, hy, he]
  exact ⟨⟨c, a, b, d, m, st, rfl⟩, hspeed, hexposure⟩

section
variable (k : Fin 4) (r : Fin 2) (s : State)

theorem closeTreated_stored : closeTreated k r s = transportClose k r (frameStored k r s) := rfl

theorem frameStored_slot (j : Fin 4) : ∃ l, (frameStored k r s).slot j =
    (if j = k then { closedSlot k r s with link := l } else { s.slot j with link := l }) ∧
    (j ≠ k → (s.slot j).state ≠ .free → (s.slot j).link = .pending k → l = .ready k) := by
  have hslot : (updSlot k (fun x => { x with state := .closed }) (unitsClosed k r s)).slot j =
      if j = k then closedSlot k r s else s.slot j := by
    rw [updSlot_slot, unitsClosed_slot, unitsClosed_slot, if_pos rfl]
    split
    · rfl
    · rfl
  unfold frameStored
  rw [movePending_slot, hslot]
  by_cases hj : j = k
  · simp only [if_pos hj]
    split
    · exact ⟨_, rfl, fun hne => absurd hj hne⟩
    · exact ⟨_, rfl, fun hne => absurd hj hne⟩
  · simp only [if_neg hj]
    split
    · exact ⟨_, rfl, fun _ _ _ => rfl⟩
    · next h => exact ⟨_, rfl, fun _ hs hl => absurd ⟨hs, hl⟩ h⟩

theorem frameStored_units : (frameStored k r s).reg = (unitsClosed k r s).reg ∧
    (frameStored k r s).defect = (unitsClosed k r s).defect ∧ (frameStored k r s).grade = (unitsClosed k r s).grade ∧
    (frameStored k r s).svc = (unitsClosed k r s).svc ∧ (frameStored k r s).reels = (unitsClosed k r s).reels ∧
    (frameStored k r s).store.list = (unitsClosed k r s).store.list ∧ (frameStored k r s).xport = s.xport ∧
    (frameStored k r s).shelf = s.shelf := by
  simp [frameStored]

end

/-! ## The whole close -/

section
variable (k : Fin 4) (r : Fin 2) (s : State)

/-- The slot of a closing frame after all the close work; its link is what the frame after it made of it (R79, R116, R148). -/
theorem closeTreated_slot : ∃ l, (closeTreated k r s).slot k = { closedSlot k r s with
    link := l, exposureChanged := exposureChangedFrom s.xport.lastReported (s.slot k).repStep } := by
  obtain ⟨l, hl, -⟩ := frameStored_slot k r s k
  obtain ⟨-, -, -, -, -, -, hxport, -⟩ := frameStored_units k r s
  rw [if_pos rfl] at hl
  rw [closeTreated_stored, transportClose_slot, if_pos rfl, hxport, hl]
  exact ⟨l, rfl⟩

/-- The other slots: the predecessor's link is READY (R44). -/
theorem closeTreated_other {j : Fin 4} (hj : j ≠ k) : ∃ l, (closeTreated k r s).slot j = { s.slot j with link := l } ∧
    ((s.slot j).state ≠ .free → (s.slot j).link = .pending k → l = .ready k) := by
  obtain ⟨l, hl, hready⟩ := frameStored_slot k r s j
  rw [if_neg hj] at hl
  rw [closeTreated_stored, transportClose_slot, if_neg hj]
  exact ⟨l, hl, hready hj⟩

theorem closeTreated_units : (closeTreated k r s).reg = { (closingCount k r s) with
      hole := closingHoles k r s, ref := (closingMeasure k r s).ref, goodDx := (closingMeasure k r s).goodDx,
      goodDy := (closingMeasure k r s).goodDy, lastHeld := closingHeld k r s
      closeCopy := some ⟨(s.slot k).latch.reg.acqMin, (s.slot k).latch.reg.unshrunkPitch⟩ } ∧
    (closeTreated k r s).defect = { s.defect with
      tracks := (countMisses (closingRegions k s).2).filter (fun x => !retires (s.slot k).latch.defect x)
      tearMem := some ⟨(s.slot k).frameNo, hasTear (closingRegions k s).1⟩ } ∧
    (closeTreated k r s).grade = { s.grade with fade := closingFade k s } ∧
    (closeTreated k r s).svc = { s.svc with causes := { s.svc.causes with
      acqFailed := s.svc.causes.acqFailed || decide (collecting (s.reel r) = true ∧
        (s.slot k).latch.reg.acqTimeout ≤ (closingCount k r s).sinceOpen ∧
        (closingCount k r s).count < (s.slot k).latch.reg.acqMin)
      tear := s.svc.causes.tear || closingTearStarts k s } } ∧
    sameReports s (closeTreated k r s) ∧ (closeTreated k r s).store.list = s.store.list := by
  obtain ⟨h1, h2, h3, h4, h5, h6, -, -⟩ := frameStored_units k r s
  obtain ⟨g1, g2, g3, g4, g5, g6⟩ := unitsClosed_units k r s
  have hreels : (closeTreated k r s).reels = (unitsClosed k r s).reels := by rw [closeTreated_stored, ← h5]; simp
  have hsvc : (closeTreated k r s).svc = (unitsClosed k r s).svc := by rw [closeTreated_stored, ← h4]; simp
  refine ⟨?_, ?_, ?_, hsvc.trans g4, ?_, ?_⟩
  · rw [closeTreated_stored, ← regClose_reg, ← g1, ← h1]
    simp
  · rw [closeTreated_stored, ← g2, ← h2]
    simp
  · rw [closeTreated_stored, ← g3, ← h3]
    simp
  · unfold sameReports at g5 ⊢
    rw [hreels, hsvc]
    exact g5
  · rw [closeTreated_stored, transportClose_list, h6, g6]

variable {s r}

theorem frameStored_reel (ha : (s.reel r).isActive = true) (q : Fin 2) :
    (frameStored k r s).reel q = if q = r then closedRecord k r s else s.reel q := by
  obtain ⟨-, -, -, -, hreels, -⟩ := frameStored_units k r s
  rw [reel_of_recs (congrArg ReelTable.recs hreels), unitsClosed_reel k ha]

theorem closeTreated_reel (ha : (s.reel r).isActive = true) (q : Fin 2) :
    (closeTreated k r s).reel q = if q = r then closedRecord k r s else s.reel q := by
  rw [← frameStored_reel k ha, closeTreated_stored]
  exact reel_of_recs (by simp) q

/-- Transport control's decisions at a treated frame's close, from the results the units have written (R87, R92, R93). -/
theorem closeTreated_decides (ha : (s.reel r).isActive = true) :
    (∃ c a b d m st, (closeTreated k r s).xport = { s.xport with
      cls := c, heldRun := a, goodRun := b, cmdStep := d, mismatch := m, stale := st, lastReported := some (s.slot k).repStep }) ∧
    speedDecided (hasTear (closingRegions k s).1) (decide ((closedRecord k r s).state = .active .acquiring)) (closingHeld k r s)
      (confidenceOf (closingHoles k r s).used.length (s.reel r).header.holes) (s.slot k).latch.reg.upConf s.xport
      (closeTreated k r s).xport ∧
    exposureDecided (s.slot k).repStep (gradeVal (setInForce s.grade) 222).toNat
      [(s.slot k).hist.r, (s.slot k).hist.g, (s.slot k).hist.b] s.xport (closeTreated k r s).xport := by
  have h := transportClose_decides k r (frameStored k r s)
  obtain ⟨l, hl, -⟩ := frameStored_slot k r s k
  obtain ⟨-, -, hgrade, -, -, -, hxport, -⟩ := frameStored_units k r s
  obtain ⟨-, -, hfade, -⟩ := unitsClosed_units k r s
  rw [if_pos rfl] at hl
  rw [hl, hxport, hgrade, hfade, frameStored_reel k ha, if_pos rfl, ← closeTreated_stored] at h
  exact h

/-- The record of a reel after its frame's close keeps its kind: the reel stays ACTIVE. -/
theorem closedRecord_isActive (ha : (s.reel r).isActive = true) : (closedRecord k r s).isActive = true :=
  (isActive_iff _).mpr (closingRecord_kind k ha)

end

end Sys2Proof.Machine
end

section
/-! PROOFS. What a FRAME_CLOSE leaves (R9, R44, R45, R79, R86 to R94, R116, R148). -/
namespace Sys2Proof.Machine

-- One thread a theorem is too many for the joined text under its memory limit.
set_option Elab.async false

theorem checkHead_closed {s : State} {k : Fin 4} (h : (s.slot k).state = .closed) :
    ∃ st, (checkHead s).slot k = { s.slot k with state := st } ∧ (st = .closed ∨ st = .emitting) := by
  obtain e | ⟨j, rest, -, -, -, -, e⟩ := checkHead_cases s <;> rw [e]
  · exact ⟨(s.slot k).state, rfl, .inl h⟩
  · rw [startEmission_slot]
    split
    · next hk => exact ⟨_, by rw [hk], .inr rfl⟩
    · exact ⟨(s.slot k).state, rfl, .inl h⟩

/-! ## A treated frame -/

/-- The state a treated frame's close ends in, block by block (R9). -/
structure FrameClosed (k : Fin 4) (r : Fin 2) (s t : State) : Prop where
  rx : t.link.rx = .between
  slot : ∃ l st, t.slot k = { closedSlot k r s with
      link := l, exposureChanged := exposureChangedFrom s.xport.lastReported (s.slot k).repStep, state := st } ∧
    (st = .closed ∨ st = .emitting)
  others : ∀ j, j ≠ k → sameFrame (s.slot j) (t.slot j) ∧
    ((s.slot j).state ≠ .free → (s.slot j).link = .pending k → (t.slot j).link = .ready k)
  record : ∃ a b c d, t.reel r = { closedRecord k r s with
    counters := { (closedRecord k r s).counters with repaired := a, unrepaired := b, partials := c, trims := d } }
  records : ∀ q, q ≠ r → ∃ a b c d, t.reel q = { s.reel q with
    counters := { (s.reel q).counters with repaired := a, unrepaired := b, partials := c, trims := d } }
  reg : t.reg = { (closingCount k r s) with
    hole := closingHoles k r s, ref := (closingMeasure k r s).ref, goodDx := (closingMeasure k r s).goodDx,
    goodDy := (closingMeasure k r s).goodDy, lastHeld := closingHeld k r s
    closeCopy := some ⟨(s.slot k).latch.reg.acqMin, (s.slot k).latch.reg.unshrunkPitch⟩ }
  defect : t.defect = { s.defect with
    tracks := (countMisses (closingRegions k s).2).filter (fun x => !retires (s.slot k).latch.defect x)
    tearMem := some ⟨(s.slot k).frameNo, hasTear (closingRegions k s).1⟩ }
  fade : t.grade.fade = closingFade k s
  acqFailed : t.svc.causes.acqFailed = (s.svc.causes.acqFailed || decide (collecting (s.reel r) = true ∧
    (s.slot k).latch.reg.acqTimeout ≤ (closingCount k r s).sinceOpen ∧
    (closingCount k r s).count < (s.slot k).latch.reg.acqMin))
  tear : t.svc.causes.tear = (s.svc.causes.tear || closingTearStarts k s)
  xport : ∃ c a b d m st, t.xport = { s.xport with
    cls := c, heldRun := a, goodRun := b, cmdStep := d, mismatch := m, stale := st, lastReported := some (s.slot k).repStep,
    loadHold := s.xport.hyst || bothOccupied s }
  speed : speedDecided (hasTear (closingRegions k s).1) (decide ((closedRecord k r s).state = .active .acquiring))
    (closingHeld k r s) (confidenceOf (closingHoles k r s).used.length (s.reel r).header.holes)
    (s.slot k).latch.reg.upConf s.xport t.xport
  exposure : exposureDecided (s.slot k).repStep (gradeVal (setInForce s.grade) 222).toNat
    [(s.slot k).hist.r, (s.slot k).hist.g, (s.slot k).hist.b] s.xport t.xport
  list : t.store.list = s.store.list
  shelf : t.shelf = s.shelf
  reports : sameReports s t
  tables : sameTables s t
  channel : sameChannel s t

theorem takeFrameClose_treated {s : State} {k : Fin 4} {r : Fin 2} (hrx : s.link.rx = .filling k)
    (ht : (s.slot k).tag = some r) (hl : (s.slot k).lineCount = (s.reel r).header.lines) :
    takeFrameClose s = setRx .between (checkHead (closeTreated k r s)) := by
  unfold takeFrameClose
  simp only [hrx, ht, if_pos hl]

theorem bothOccupied_of_occupied {s t : State} (h : ∀ q, (t.reel q).occupied = (s.reel q).occupied) :
    bothOccupied t = bothOccupied s := by
  unfold bothOccupied
  simp only [h]

theorem occupied_of_isActive {x : ReelRecord} (h : x.isActive = true) : x.occupied = true := by
  unfold ReelRecord.isActive at h
  unfold ReelRecord.occupied
  split at h
  · next hs => rw [hs]
  · cases h

/-- A FRAME_CLOSE after all the lines of an ACTIVE reel's frame (R9). -/
theorem frameClose_treated {s : State} {k : Fin 4} {r : Fin 2} (hrx : s.link.rx = .filling k)
    (ht : (s.slot k).tag = some r) (ha : (s.reel r).isActive = true)
    (hl : (s.slot k).lineCount = (s.reel r).header.lines) : FrameClosed k r s (settle s (takeFrameClose s)) := by
  have hfixed := fixedOf_takeFrameClose s
  rw [takeFrameClose_treated hrx ht hl] at hfixed ⊢
  obtain ⟨hreg, hdefect, hgrade, hsvc, hreports, hlist⟩ := closeTreated_units k r s
  obtain ⟨l, hslot⟩ := closeTreated_slot k r s
  obtain ⟨⟨c, a, b, d, m, st, hxport⟩, hspeed, hexposure⟩ := closeTreated_decides k ha
  have hreel := closeTreated_reel k ha
  have hother := fun j (hj : j ≠ k) => closeTreated_other k r s hj
  have hshelf : (closeTreated k r s).shelf = s.shelf := by simp
  generalize closeTreated k r s = u at *
  have hcounts := checkHead_counts u
  have hoccupied : bothOccupied (setRx .between (checkHead u)) = bothOccupied s := by
    refine bothOccupied_of_occupied fun q => ?_
    obtain ⟨a, b, c, d, e⟩ := hcounts q
    rw [setRx_reel, e, hreel]
    split
    · next hq =>
      rw [hq, occupied_of_isActive ha]
      exact occupied_of_isActive (closedRecord_isActive k ha)
    · rfl
  have hx : (settle s (setRx .between (checkHead u))).xport =
      { u.xport with loadHold := s.xport.hyst || bothOccupied s } := by
    rw [settle_xport, hoccupied]
    simp [hxport]
  refine {
    rx := by simp
    slot := ?_, others := fun j hj => ?_, record := ?_, records := fun q hq => ?_
    reg := by simpa using hreg
    defect := by simpa using hdefect
    fade := by simp [hgrade]
    acqFailed := by simp [hsvc]
    tear := by simp [hsvc]
    xport := ⟨c, a, b, d, m, st, by rw [hx, hxport]⟩
    speed := by rw [hx]; exact hspeed
    exposure := by rw [hx]; exact hexposure
    list := by simpa using hlist
    shelf := by simpa using hshelf
    reports := sameReports_settle s (by simpa [sameReports] using hreports)
    tables := settle_tables s hfixed
    channel := settle_channel s hfixed }
  · obtain ⟨st, hst, hkind⟩ := checkHead_closed (s := u) (k := k) (by rw [hslot]; rfl)
    refine ⟨l, st, ?_, hkind⟩
    rw [settle_slot, setRx_slot, hst, hslot]
  · obtain ⟨l, hl, hready⟩ := hother j hj
    have hframe := checkHead_sameFrame u j
    rw [hl] at hframe
    rw [settle_slot, setRx_slot, checkHead_link, hl]
    exact ⟨hframe, hready⟩
  · obtain ⟨a, b, c, d, e⟩ := hcounts r
    rw [hreel, if_pos rfl] at e
    exact ⟨a, b, c, d, by rw [settle_reel, setRx_reel, e]⟩
  · obtain ⟨a, b, c, d, e⟩ := hcounts q
    rw [hreel, if_neg hq] at e
    exact ⟨a, b, c, d, by rw [settle_reel, setRx_reel, e]⟩

section
variable {k : Fin 4} {r : Fin 2} {s t : State}

/-- The registration unit's results of a close, as its statement has them (R65 to R76, R79, R87). -/
theorem FrameClosed.registration (h : FrameClosed k r s t) :
    ∃ table used m, table = (s.slot k).latch.reg ∧
      used = (endRun table (s.reel r).header.holes (s.reel r).header.lines s.reg.hole).used ∧
      m = measure table (pitchInUse (s.reel r) table) (s.reel r).header.holes used s.reg ∧
      (t.slot k).dx = m.dx ∧ (t.slot k).dy = m.dy ∧ (t.slot k).shiftClamped = m.clamped ∧
      (t.slot k).confidence = used.length * 64 / (s.reel r).header.holes ∧
      (t.slot k).regHeld = frameHeld table used.length (s.reel r).header.holes ∧
      t.reg.lastHeld = (t.slot k).regHeld ∧ t.reg.ref = m.ref ∧ t.reg.goodDx = m.goodDx ∧ t.reg.goodDy = m.goodDy ∧
      (t.reel r).counters.held = credit32 (s.reel r).counters.held (if (t.slot k).regHeld then 1 else 0) ∧
      t.reg.sinceOpen = satAdd 65535 s.reg.sinceOpen 1 ∧
      t.reg.closeCopy = some ⟨table.acqMin, table.unshrunkPitch⟩ ∧
      (∀ p, m.sample = some p → collecting (s.reel r) = true →
        t.reg.sum = s.reg.sum + p ∧ t.reg.count = s.reg.count + 1) ∧
      ((collecting (s.reel r) = false ∨ m.sample = none) → t.reg.sum = s.reg.sum ∧ t.reg.count = s.reg.count) ∧
      (collecting (s.reel r) = true → table.acqTimeout ≤ t.reg.sinceOpen → table.acqMin ≤ t.reg.count →
        (t.reel r).state = .active .locked ∧ (t.reel r).acqOutcome = .locked ∧
        (t.reel r).reelPitch = (t.reg.sum + t.reg.count / 2) / t.reg.count ∧
        (t.reel r).reelShrinkage = some (shrinkage (t.reel r).reelPitch table.unshrunkPitch) ∧
        t.svc.causes.acqFailed = s.svc.causes.acqFailed) ∧
      (collecting (s.reel r) = true → table.acqTimeout ≤ t.reg.sinceOpen → t.reg.count < table.acqMin →
        (t.reel r).state = .active .failed ∧ (t.reel r).acqOutcome = .failed ∧
        (t.reel r).reelPitch = (s.reel r).reelPitch ∧ (t.reel r).reelShrinkage = (s.reel r).reelShrinkage ∧
        t.svc.causes.acqFailed = true) ∧
      ((collecting (s.reel r) = false ∨ t.reg.sinceOpen < table.acqTimeout) →
        (t.reel r).state = (if (s.reel r).state = .active .acquiring ∧ table.acqMin ≤ t.reg.count then
          .active .lockedCollecting else (s.reel r).state) ∧
        (t.reel r).acqOutcome = (s.reel r).acqOutcome ∧ (t.reel r).reelPitch = (s.reel r).reelPitch ∧
        (t.reel r).reelShrinkage = (s.reel r).reelShrinkage ∧ t.svc.causes.acqFailed = s.svc.causes.acqFailed) ∧
      (∀ p, m.sample = some p → (t.reel r).state = .active .locked →
        (t.reel r).peakShrinkage = some (max ((s.reel r).peakShrinkage.getD (shrinkage p table.unshrunkPitch))
          (shrinkage p table.unshrunkPitch))) ∧
      (((t.reel r).state ≠ .active .locked ∨ m.sample = none) →
        (t.reel r).peakShrinkage = (s.reel r).peakShrinkage) ∧
      speedDecided (t.slot k).tearPresent (decide ((t.reel r).state = .active .acquiring)) (t.slot k).regHeld
        (t.slot k).confidence table.upConf s.xport t.xport := by
  obtain ⟨l, st, hslot, -⟩ := h.slot
  obtain ⟨a, b, c, d, hreel⟩ := h.record
  obtain ⟨hsince, hsample, hnone⟩ := closingCount_counts k r s
  obtain ⟨hlocks, hfails, hgoes⟩ := closingRecord_acquisition k r s
  obtain ⟨hpeak, hnopeak⟩ := closingRecord_peak k r s
  refine ⟨_, (closingHoles k r s).used, closingMeasure k r s, rfl, rfl, rfl, ?_⟩
  rw [hslot, hreel, h.reg, h.acqFailed]
  refine ⟨rfl, rfl, rfl, rfl, rfl, rfl, rfl, rfl, rfl, ?_, hsince, rfl, hsample, hnone, fun hc ht hm => ?_, fun hc ht hm => ?_,
    fun hg => ?_, hpeak, hnopeak, h.speed⟩
  · show credit32 _ (flag (closingHeld k r s)) = credit32 _ (if closingHeld k r s then 1 else 0)
    cases closingHeld k r s <;> rfl
  · obtain ⟨h1, h2, h3, h4⟩ := hlocks hc ht hm
    refine ⟨h1, h2, h3, h4, ?_⟩
    rw [decide_eq_false fun hf => Nat.not_lt.mpr hm hf.2.2, Bool.or_false]
  · obtain ⟨h1, h2, h3, h4⟩ := hfails hc ht hm
    refine ⟨h1, h2, h3, h4, ?_⟩
    rw [decide_eq_true ⟨hc, ht, hm⟩, Bool.or_true]
  · obtain ⟨h1, h2, h3, h4⟩ := hgoes hg
    refine ⟨h1, h2, h3, h4, ?_⟩
    have hno : ¬(collecting (s.reel r) = true ∧ (s.slot k).latch.reg.acqTimeout ≤ (closingCount k r s).sinceOpen ∧
        (closingCount k r s).count < (s.slot k).latch.reg.acqMin) := by
      rintro ⟨hc, ht, -⟩
      obtain hg | hg := hg
      · rw [hc] at hg; cases hg
      · exact absurd ht (Nat.not_le.mpr hg)
    rw [decide_eq_false hno, Bool.or_false]

/-- The defect unit's results of a close, as its statement has them (R107, R108, R112 to R116). -/
theorem FrameClosed.defects (h : FrameClosed k r s t) :
    ∃ c retired, c = classifyRegions (s.slot k).latch.defect (s.slot k).frameNo (s.slot k).regions
        (candidateGate (s.slot k).frameNo (clearMarks s.defect.tracks)) ∧
      retired = (countMisses c.2).filter (retires (s.slot k).latch.defect) ∧
      (t.slot k).regions = c.1 ∧ (t.slot k).tearPresent = hasTear c.1 ∧
      t.defect.tracks = (countMisses c.2).filter (fun x => !retires (s.slot k).latch.defect x) ∧
      t.defect.tearMem = some ⟨(s.slot k).frameNo, hasTear c.1⟩ ∧ t.defect.table = s.defect.table ∧
      (t.reel r).counters.scratches = credit32 (s.reel r).counters.scratches retired.length ∧
      (t.reel r).counters.tearRuns = credit32 (s.reel r).counters.tearRuns
        (if hasTear c.1 && startsTearRun s.defect.tearMem (s.slot k).frameNo then 1 else 0) ∧
      t.svc.causes.tear = (s.svc.causes.tear || (hasTear c.1 && startsTearRun s.defect.tearMem (s.slot k).frameNo)) ∧
      (t.reel r).counters.lost = credit32 (s.reel r).counters.lost (s.slot k).regionsLost := by
  obtain ⟨l, st, hslot, -⟩ := h.slot
  obtain ⟨a, b, c, d, hreel⟩ := h.record
  refine ⟨closingRegions k s, closingRetired k s, rfl, rfl, ?_⟩
  rw [hslot, hreel, h.defect, h.tear]
  refine ⟨rfl, rfl, rfl, rfl, rfl, rfl, ?_, rfl, rfl⟩
  show credit32 _ (flag (closingTearStarts k s)) = credit32 _ (if closingTearStarts k s then 1 else 0)
  cases closingTearStarts k s <;> rfl

end

/-! ## An untreated frame -/

theorem takeFrameClose_untreated {s : State} {k : Fin 4} (hrx : s.link.rx = .filling k) (ht : (s.slot k).tag = none) :
    takeFrameClose s = setRx .between (checkHead (updSlot k (fun x => { x with state := .closed }) s)) := by
  unfold takeFrameClose
  simp only [hrx, ht]

/-- A FRAME_CLOSE of an untreated frame closes its slot and writes nothing else (R9). -/
theorem frameClose_untreated {s : State} {k : Fin 4} (hn : s.npor = true) (hrx : s.link.rx = .filling k)
    (ht : (s.slot k).tag = none) : ∃ t, exec .frameClose s = .next t ∧ t.link.rx = .between ∧
      ((t.slot k).state = .closed ∨ (t.slot k).state = .emitting) ∧
      t.slot k = { s.slot k with state := (t.slot k).state } ∧
      (∀ rest, s.store.list = .frame k :: rest → anyEmitting s = false → (s.slot k).link = .none →
        (t.slot k).state = .emitting) ∧
      (∀ j, j ≠ k → t.slot j = { s.slot j with state := (t.slot j).state }) ∧ t.store.list = s.store.list ∧
      (∀ q, t.reel q = { s.reel q with counters := (t.reel q).counters } ∧
        sameFrameCounts (s.reel q).counters (t.reel q).counters ∧
        (t.reel q).counters.opened = (s.reel q).counters.opened) ∧
      t.reg = s.reg ∧ t.defect = s.defect ∧ t.grade.fade = s.grade.fade ∧ t.shelf = s.shelf ∧ sameTransport s t ∧
      sameReports s t ∧ sameTables s t ∧ sameChannel s t := by
  have hfixed := fixedOf_takeFrameClose s
  have hexec : exec .frameClose s = .next (settle s (takeFrameClose s)) := exec_settles rfl hn
  rw [takeFrameClose_untreated hrx ht] at hfixed hexec
  obtain ⟨u, hu⟩ : ∃ u, u = updSlot k (fun x => { x with state := .closed }) s := ⟨_, rfl⟩
  have hslot : ∀ j, u.slot j = if j = k then { s.slot k with state := .closed } else s.slot j := fun j => by
    rw [hu, updSlot_slot]
  obtain ⟨st, hst, hkind⟩ := checkHead_closed (s := u) (k := k) (by rw [hslot, if_pos rfl])
  rw [hslot, if_pos rfl] at hst
  rw [← hu] at hexec hfixed
  refine ⟨_, hexec, by simp, ?_⟩
  rw [settle_slot, setRx_slot, hst]
  refine ⟨hkind, rfl, fun rest hlist hidle hlink => ?_, fun j hj => ?_, by simp [hu], fun q => ?_, by simp [hu], by simp [hu],
    by simp [hu], by simp [hu], sameTransport_settle s (by simp [hu]), sameReports_settle s (by simp [sameReports, hu]),
    settle_tables s hfixed, settle_channel s hfixed⟩
  · have hstart : checkHead u = startEmission k u := by
      refine checkHead_starts (rest := rest) (by simp [hu, hlist]) ?_ (by rw [hslot, if_pos rfl]) (by rw [hslot, if_pos rfl]; simp [hlink, linkSettled])
      unfold anyEmitting at hidle ⊢
      rw [List.any_eq_false] at hidle ⊢
      intro j hj
      rw [hslot]
      split
      · simp
      · exact hidle j hj
    rw [hstart, startEmission_slot, if_pos rfl] at hst
    exact (congrArg Slot.state hst).symm
  · rw [settle_slot, setRx_slot, checkHead_slot, hslot, if_neg hj]
  · obtain ⟨a, b, c, d, e⟩ := checkHead_counts u q
    rw [settle_reel, setRx_reel, e]
    have hq : u.reel q = s.reel q := by rw [hu, updSlot_reel]
    rw [hq]
    exact ⟨rfl, ⟨rfl, rfl, rfl, rfl, rfl⟩, rfl⟩

/-- Settles O15. -/
theorem frameCloseWritesTheResults : Obligations.FrameCloseWritesTheResults := by
  unfold Obligations.FrameCloseWritesTheResults
  refine ⟨fun s k r hn hrx ht ha hl => ?_, fun s k hn hrx ht => frameClose_untreated hn hrx ht⟩
  have h := frameClose_treated hrx ht ha hl
  have hexec : exec .frameClose s = .next (settle s (takeFrameClose s)) := exec_settles rfl hn
  obtain ⟨t, hT⟩ : ∃ t, t = settle s (takeFrameClose s) := ⟨_, rfl⟩
  rw [← hT] at h hexec
  obtain ⟨l, st, hslot, hkind⟩ := h.slot
  obtain ⟨a, b, c, d, hreel⟩ := h.record
  obtain ⟨cls, x1, x2, x3, x4, x5, hxport⟩ := h.xport
  have hheader : (closedRecord k r s).header = (s.reel r).header := by
    obtain ⟨_, _, _, _, _, e⟩ := closingRecord_eq k r s
    exact (congrArg ReelRecord.header e :)
  refine ⟨t, hexec, h.rx, ?_, h.registration, h.exposure, ?_, h.defects, h.fade, ?_⟩
  · rw [hslot]
    exact hkind
  · rw [hxport]
  · rw [hslot, h.fade]
    refine ⟨rfl, ?_, ?_, rfl, rfl, fun j hj => (h.others j hj).2, fun q hq => ?_, ?_, ?_, ?_, ?_, fun j hj => (h.others j hj).1, h.list,
      h.shelf, h.reports, h.tables, h.channel⟩
    · rw [hreel]; rfl
    · rw [hreel]; rfl
    · obtain ⟨a, b, c, d, e⟩ := h.records q hq
      rw [e]
      exact ⟨rfl, rfl, rfl, rfl, rfl, rfl, rfl⟩
    · rw [hreel]; exact hheader
    · rw [hreel]; exact closedRecord_isActive k ha
    · rw [hreel]; rfl
    · rw [hreel]; rfl

end Sys2Proof.Machine
end
